-- ==== Sys2Proof/Word.lean ====
section
/-! DEFINITION. The word types of the block's interface: 32-bit registers (00 R18), 16-bit byte
offsets (20 R100) and the 8-bit slot index of a command word (30 R141). Counters and settings are
not here: they are unsigned integers below a slot's modulus (00 R13), so the model holds them as
natural numbers. -/

namespace Sys2Proof

/-- A 32-bit register or command word, bit 0 least significant (00 R18). -/
abbrev Word := BitVec 32

/-- A byte offset of the host register space (20 R100). -/
abbrev Offset := BitVec 16

/-- The SLOT field of a command word, used as is (30 R146). -/
abbrev SlotIdx := BitVec 8

end Sys2Proof
end

