-- ==== Sys2Proof/Syntax.lean ====
section
/-! DEFINITION. Syntax: the variants (00 R3), the operations (30 R143), the names of the slot
fields (10 R48) and the commands, one constructor of `Instr` per row of spec/opcode_table.json
(30 R144, R145). Every command's only operand is the slot index (30 R146). -/

namespace Sys2Proof

/-- The ten slot variants (00 R3). -/
inductive Variant where
  /-- Single-Pulse Timer -/
  | sp
  /-- Forward/Backward Single-Pulse Timer (fixed step) -/
  | fb
  /-- Variable-Step Forward/Backward Timer -/
  | vs
  /-- Continuous Timer -/
  | ct
  /-- Constant-Period Continuous Timer -/
  | cp
  /-- Free-Running Constant Timer -/
  | fr
  /-- Asymmetric Continuous (Duty-Cycle) Timer -/
  | ac
  /-- Asymmetric Single-Pulse Timer -/
  | as
  /-- Burst Generator without output control -/
  | bg
  /-- Burst Generator with direct output control -/
  | bgo
  deriving DecidableEq, Repr, Inhabited

/-- The eleven operations (30 R143). -/
inductive Op where
  /-- arm: reinitialise counter, settings, phase; clear flags -/
  | set
  /-- deactivate, clear flags -/
  | stop
  /-- deactivate, clear flags (FR: restart with a new first period) -/
  | reset
  /-- clear the slot's flag -/
  | clear
  /-- run the slot's own transition once -/
  | step
  /-- change settings in place -/
  | chgset
  /-- re-arm backward without resetting the counter -/
  | revive
  /-- change the forward step -/
  | chgstepf
  /-- change the backward step -/
  | chgstepb
  /-- pause an armed slot -/
  | suspend
  /-- continue a paused slot -/
  | resume
  deriving DecidableEq, Repr, Inhabited

/-- The names of the fields of a slot's record (10 R48). -/
inductive SlotField where
  | active | cnt | s0 | s1 | s2 | s3 | dir | state | phase | rem | susp | expired | tickf | out
  deriving DecidableEq, Repr, Inhabited

/-- The commands. A name without the suffix `I` is the self-excluding form (X = 0, 40 R212), a name
with it the already-excluded form (X = 1, 40 R213). The argument is the SLOT field. -/
inductive Instr where
  /-- `SP.SET` (R301) -/
  | spSet (slot : SlotIdx)
  /-- `SP.SETI` (R301) -/
  | spSetI (slot : SlotIdx)
  /-- `SP.STOP` (R302) -/
  | spStop (slot : SlotIdx)
  /-- `SP.STOPI` (R302) -/
  | spStopI (slot : SlotIdx)
  /-- `SP.RESET` (R303) -/
  | spReset (slot : SlotIdx)
  /-- `SP.RESETI` (R303) -/
  | spResetI (slot : SlotIdx)
  /-- `SP.CLEAR` (R304) -/
  | spClear (slot : SlotIdx)
  /-- `SP.CLEARI` (R304) -/
  | spClearI (slot : SlotIdx)
  /-- `SP.STEP` (R305) -/
  | spStep (slot : SlotIdx)
  /-- `SP.STEPI` (R305) -/
  | spStepI (slot : SlotIdx)
  /-- `FB.SET` (R401) -/
  | fbSet (slot : SlotIdx)
  /-- `FB.SETI` (R401) -/
  | fbSetI (slot : SlotIdx)
  /-- `FB.STOP` (R402) -/
  | fbStop (slot : SlotIdx)
  /-- `FB.STOPI` (R402) -/
  | fbStopI (slot : SlotIdx)
  /-- `FB.RESET` (R403) -/
  | fbReset (slot : SlotIdx)
  /-- `FB.RESETI` (R403) -/
  | fbResetI (slot : SlotIdx)
  /-- `FB.CLEAR` (R404) -/
  | fbClear (slot : SlotIdx)
  /-- `FB.CLEARI` (R404) -/
  | fbClearI (slot : SlotIdx)
  /-- `FB.STEP` (R405) -/
  | fbStep (slot : SlotIdx)
  /-- `FB.STEPI` (R405) -/
  | fbStepI (slot : SlotIdx)
  /-- `FB.CHGSET` (R406) -/
  | fbChgset (slot : SlotIdx)
  /-- `FB.CHGSETI` (R406) -/
  | fbChgsetI (slot : SlotIdx)
  /-- `FB.REVIVE` (R407) -/
  | fbRevive (slot : SlotIdx)
  /-- `FB.REVIVEI` (R407) -/
  | fbReviveI (slot : SlotIdx)
  /-- `VS.SET` (R421) -/
  | vsSet (slot : SlotIdx)
  /-- `VS.SETI` (R421) -/
  | vsSetI (slot : SlotIdx)
  /-- `VS.STOP` (R422) -/
  | vsStop (slot : SlotIdx)
  /-- `VS.STOPI` (R422) -/
  | vsStopI (slot : SlotIdx)
  /-- `VS.RESET` (R423) -/
  | vsReset (slot : SlotIdx)
  /-- `VS.RESETI` (R423) -/
  | vsResetI (slot : SlotIdx)
  /-- `VS.CLEAR` (R424) -/
  | vsClear (slot : SlotIdx)
  /-- `VS.CLEARI` (R424) -/
  | vsClearI (slot : SlotIdx)
  /-- `VS.STEP` (R425) -/
  | vsStep (slot : SlotIdx)
  /-- `VS.STEPI` (R425) -/
  | vsStepI (slot : SlotIdx)
  /-- `VS.CHGSET` (R426) -/
  | vsChgset (slot : SlotIdx)
  /-- `VS.CHGSETI` (R426) -/
  | vsChgsetI (slot : SlotIdx)
  /-- `VS.REVIVE` (R427) -/
  | vsRevive (slot : SlotIdx)
  /-- `VS.REVIVEI` (R427) -/
  | vsReviveI (slot : SlotIdx)
  /-- `VS.CHGSTEPF` (R428) -/
  | vsChgstepf (slot : SlotIdx)
  /-- `VS.CHGSTEPFI` (R428) -/
  | vsChgstepfI (slot : SlotIdx)
  /-- `VS.CHGSTEPB` (R429) -/
  | vsChgstepb (slot : SlotIdx)
  /-- `VS.CHGSTEPBI` (R429) -/
  | vsChgstepbI (slot : SlotIdx)
  /-- `CT.SET` (R501) -/
  | ctSet (slot : SlotIdx)
  /-- `CT.SETI` (R501) -/
  | ctSetI (slot : SlotIdx)
  /-- `CT.STOP` (R502) -/
  | ctStop (slot : SlotIdx)
  /-- `CT.STOPI` (R502) -/
  | ctStopI (slot : SlotIdx)
  /-- `CT.RESET` (R503) -/
  | ctReset (slot : SlotIdx)
  /-- `CT.RESETI` (R503) -/
  | ctResetI (slot : SlotIdx)
  /-- `CT.CLEAR` (R504) -/
  | ctClear (slot : SlotIdx)
  /-- `CT.CLEARI` (R504) -/
  | ctClearI (slot : SlotIdx)
  /-- `CT.STEP` (R505) -/
  | ctStep (slot : SlotIdx)
  /-- `CT.STEPI` (R505) -/
  | ctStepI (slot : SlotIdx)
  /-- `CT.CHGSET` (R506) -/
  | ctChgset (slot : SlotIdx)
  /-- `CT.CHGSETI` (R506) -/
  | ctChgsetI (slot : SlotIdx)
  /-- `CP.SET` (R521) -/
  | cpSet (slot : SlotIdx)
  /-- `CP.SETI` (R521) -/
  | cpSetI (slot : SlotIdx)
  /-- `CP.STOP` (R522) -/
  | cpStop (slot : SlotIdx)
  /-- `CP.STOPI` (R522) -/
  | cpStopI (slot : SlotIdx)
  /-- `CP.RESET` (R523) -/
  | cpReset (slot : SlotIdx)
  /-- `CP.RESETI` (R523) -/
  | cpResetI (slot : SlotIdx)
  /-- `CP.CLEAR` (R524) -/
  | cpClear (slot : SlotIdx)
  /-- `CP.CLEARI` (R524) -/
  | cpClearI (slot : SlotIdx)
  /-- `CP.STEP` (R525) -/
  | cpStep (slot : SlotIdx)
  /-- `CP.STEPI` (R525) -/
  | cpStepI (slot : SlotIdx)
  /-- `FR.RESET` (R541) -/
  | frReset (slot : SlotIdx)
  /-- `FR.RESETI` (R541) -/
  | frResetI (slot : SlotIdx)
  /-- `FR.CLEAR` (R542) -/
  | frClear (slot : SlotIdx)
  /-- `FR.CLEARI` (R542) -/
  | frClearI (slot : SlotIdx)
  /-- `FR.STEP` (R543) -/
  | frStep (slot : SlotIdx)
  /-- `FR.STEPI` (R543) -/
  | frStepI (slot : SlotIdx)
  /-- `AC.SET` (R601) -/
  | acSet (slot : SlotIdx)
  /-- `AC.SETI` (R601) -/
  | acSetI (slot : SlotIdx)
  /-- `AC.STOP` (R602) -/
  | acStop (slot : SlotIdx)
  /-- `AC.STOPI` (R602) -/
  | acStopI (slot : SlotIdx)
  /-- `AC.RESET` (R603) -/
  | acReset (slot : SlotIdx)
  /-- `AC.RESETI` (R603) -/
  | acResetI (slot : SlotIdx)
  /-- `AC.CLEAR` (R604) -/
  | acClear (slot : SlotIdx)
  /-- `AC.CLEARI` (R604) -/
  | acClearI (slot : SlotIdx)
  /-- `AC.STEP` (R605) -/
  | acStep (slot : SlotIdx)
  /-- `AC.STEPI` (R605) -/
  | acStepI (slot : SlotIdx)
  /-- `AC.CHGSET` (R606) -/
  | acChgset (slot : SlotIdx)
  /-- `AC.CHGSETI` (R606) -/
  | acChgsetI (slot : SlotIdx)
  /-- `AC.SUSPEND` (R610) -/
  | acSuspend (slot : SlotIdx)
  /-- `AC.SUSPENDI` (R610) -/
  | acSuspendI (slot : SlotIdx)
  /-- `AC.RESUME` (R611) -/
  | acResume (slot : SlotIdx)
  /-- `AC.RESUMEI` (R611) -/
  | acResumeI (slot : SlotIdx)
  /-- `AS.SET` (R621) -/
  | asSet (slot : SlotIdx)
  /-- `AS.SETI` (R621) -/
  | asSetI (slot : SlotIdx)
  /-- `AS.STOP` (R622) -/
  | asStop (slot : SlotIdx)
  /-- `AS.STOPI` (R622) -/
  | asStopI (slot : SlotIdx)
  /-- `AS.RESET` (R623) -/
  | asReset (slot : SlotIdx)
  /-- `AS.RESETI` (R623) -/
  | asResetI (slot : SlotIdx)
  /-- `AS.CLEAR` (R624) -/
  | asClear (slot : SlotIdx)
  /-- `AS.CLEARI` (R624) -/
  | asClearI (slot : SlotIdx)
  /-- `AS.STEP` (R625) -/
  | asStep (slot : SlotIdx)
  /-- `AS.STEPI` (R625) -/
  | asStepI (slot : SlotIdx)
  /-- `AS.SUSPEND` (R630) -/
  | asSuspend (slot : SlotIdx)
  /-- `AS.SUSPENDI` (R630) -/
  | asSuspendI (slot : SlotIdx)
  /-- `AS.RESUME` (R631) -/
  | asResume (slot : SlotIdx)
  /-- `AS.RESUMEI` (R631) -/
  | asResumeI (slot : SlotIdx)
  /-- `BG.SET` (R701) -/
  | bgSet (slot : SlotIdx)
  /-- `BG.SETI` (R701) -/
  | bgSetI (slot : SlotIdx)
  /-- `BG.STOP` (R702) -/
  | bgStop (slot : SlotIdx)
  /-- `BG.STOPI` (R702) -/
  | bgStopI (slot : SlotIdx)
  /-- `BG.RESET` (R703) -/
  | bgReset (slot : SlotIdx)
  /-- `BG.RESETI` (R703) -/
  | bgResetI (slot : SlotIdx)
  /-- `BG.CLEAR` (R704) -/
  | bgClear (slot : SlotIdx)
  /-- `BG.CLEARI` (R704) -/
  | bgClearI (slot : SlotIdx)
  /-- `BG.STEP` (R705) -/
  | bgStep (slot : SlotIdx)
  /-- `BG.STEPI` (R705) -/
  | bgStepI (slot : SlotIdx)
  /-- `BGO.SET` (R721) -/
  | bgoSet (slot : SlotIdx)
  /-- `BGO.SETI` (R721) -/
  | bgoSetI (slot : SlotIdx)
  /-- `BGO.STOP` (R722) -/
  | bgoStop (slot : SlotIdx)
  /-- `BGO.STOPI` (R722) -/
  | bgoStopI (slot : SlotIdx)
  /-- `BGO.RESET` (R723) -/
  | bgoReset (slot : SlotIdx)
  /-- `BGO.RESETI` (R723) -/
  | bgoResetI (slot : SlotIdx)
  /-- `BGO.CLEAR` (R724) -/
  | bgoClear (slot : SlotIdx)
  /-- `BGO.CLEARI` (R724) -/
  | bgoClearI (slot : SlotIdx)
  /-- `BGO.STEP` (R725) -/
  | bgoStep (slot : SlotIdx)
  /-- `BGO.STEPI` (R725) -/
  | bgoStepI (slot : SlotIdx)
  deriving DecidableEq, Repr

end Sys2Proof
end

