-- ==== Sys2Proof/Decode.lean ====
section
/-! DEFINITION. The command word (30 R140 to R149): its fields, the decoder and the encoder. The
decoder is total on all 2^32 words (30 R148). It makes the two checks that need only the word
(CMD_RESERVED, CMD_UNDEFINED_OP); the two that need the parameters (CMD_SLOT_RANGE,
CMD_VARIANT_MISMATCH) come next in the same order when the command starts
(`Machine.runCommand`). -/

namespace Sys2Proof

/-- Why a word spells no command (30 R147, items 1 and 2). -/
inductive DecodeError where
  /-- bits 31:17 are not 0 -/
  | cmdReserved
  /-- the pair (VT, OP) is no cell of 30 R144 -/
  | cmdUndefinedOp
  deriving DecidableEq, Repr

/-- What a command word names: form, slot, variant and operation (30 R141). -/
structure Cell where
  /-- the X bit -/
  x : Bool
  slot : SlotIdx
  vt : Variant
  op : Op
  deriving DecidableEq, Repr

/-- OP, bits 3:0 (30 R141). -/
def opField (w : Word) : BitVec 4 := w.extractLsb' 0 4

/-- VT, bits 7:4 (30 R141). -/
def vtField (w : Word) : BitVec 4 := w.extractLsb' 4 4

/-- SLOT, bits 15:8 (30 R141). -/
def slotField (w : Word) : SlotIdx := w.extractLsb' 8 8

/-- X, bit 16 (30 R141). -/
def xField (w : Word) : Bool := w.getLsbD 16

/-- RSV, bits 31:17 (30 R141). -/
def rsvField (w : Word) : BitVec 15 := w.extractLsb' 17 15

/-- The variant codes (30 R142). -/
def variantCode : Variant → BitVec 4
  | .sp => 0x1#4
  | .fb => 0x2#4
  | .vs => 0x3#4
  | .ct => 0x4#4
  | .cp => 0x5#4
  | .fr => 0x6#4
  | .ac => 0x7#4
  | .as => 0x8#4
  | .bg => 0x9#4
  | .bgo => 0xa#4

/-- The variant a VT code names; 0x0 and 0xB to 0xF are reserved (30 R142). -/
def variantOf (b : BitVec 4) : Option Variant :=
  if b = 0x1#4 then some .sp
  else if b = 0x2#4 then some .fb
  else if b = 0x3#4 then some .vs
  else if b = 0x4#4 then some .ct
  else if b = 0x5#4 then some .cp
  else if b = 0x6#4 then some .fr
  else if b = 0x7#4 then some .ac
  else if b = 0x8#4 then some .as
  else if b = 0x9#4 then some .bg
  else if b = 0xa#4 then some .bgo
  else none

/-- The operation codes (30 R143). -/
def opCode : Op → BitVec 4
  | .set => 0x0#4
  | .stop => 0x1#4
  | .reset => 0x2#4
  | .clear => 0x3#4
  | .step => 0x4#4
  | .chgset => 0x5#4
  | .revive => 0x6#4
  | .chgstepf => 0x7#4
  | .chgstepb => 0x8#4
  | .suspend => 0x9#4
  | .resume => 0xa#4

/-- The operation an OP code names; 0xB to 0xF are reserved (30 R143). -/
def opOf (b : BitVec 4) : Option Op :=
  if b = 0x0#4 then some .set
  else if b = 0x1#4 then some .stop
  else if b = 0x2#4 then some .reset
  else if b = 0x3#4 then some .clear
  else if b = 0x4#4 then some .step
  else if b = 0x5#4 then some .chgset
  else if b = 0x6#4 then some .revive
  else if b = 0x7#4 then some .chgstepf
  else if b = 0x8#4 then some .chgstepb
  else if b = 0x9#4 then some .suspend
  else if b = 0xa#4 then some .resume
  else none

/-- `w = (x << 16) | (slot << 8) | (vt << 4) | op` (30 R149). -/
def cmdWord (c : Cell) : Word :=
  ((BitVec.ofBool c.x).setWidth 32 <<< 16) ||| (c.slot.setWidth 32 <<< 8) |||
    ((variantCode c.vt).setWidth 32 <<< 4) ||| (opCode c.op).setWidth 32

/-- The cell of 30 R144 an instruction stands in, with its form and slot. -/
def Instr.cell : Instr → Cell
  | .spSet slot => ⟨false, slot, .sp, .set⟩
  | .spSetI slot => ⟨true, slot, .sp, .set⟩
  | .spStop slot => ⟨false, slot, .sp, .stop⟩
  | .spStopI slot => ⟨true, slot, .sp, .stop⟩
  | .spReset slot => ⟨false, slot, .sp, .reset⟩
  | .spResetI slot => ⟨true, slot, .sp, .reset⟩
  | .spClear slot => ⟨false, slot, .sp, .clear⟩
  | .spClearI slot => ⟨true, slot, .sp, .clear⟩
  | .spStep slot => ⟨false, slot, .sp, .step⟩
  | .spStepI slot => ⟨true, slot, .sp, .step⟩
  | .fbSet slot => ⟨false, slot, .fb, .set⟩
  | .fbSetI slot => ⟨true, slot, .fb, .set⟩
  | .fbStop slot => ⟨false, slot, .fb, .stop⟩
  | .fbStopI slot => ⟨true, slot, .fb, .stop⟩
  | .fbReset slot => ⟨false, slot, .fb, .reset⟩
  | .fbResetI slot => ⟨true, slot, .fb, .reset⟩
  | .fbClear slot => ⟨false, slot, .fb, .clear⟩
  | .fbClearI slot => ⟨true, slot, .fb, .clear⟩
  | .fbStep slot => ⟨false, slot, .fb, .step⟩
  | .fbStepI slot => ⟨true, slot, .fb, .step⟩
  | .fbChgset slot => ⟨false, slot, .fb, .chgset⟩
  | .fbChgsetI slot => ⟨true, slot, .fb, .chgset⟩
  | .fbRevive slot => ⟨false, slot, .fb, .revive⟩
  | .fbReviveI slot => ⟨true, slot, .fb, .revive⟩
  | .vsSet slot => ⟨false, slot, .vs, .set⟩
  | .vsSetI slot => ⟨true, slot, .vs, .set⟩
  | .vsStop slot => ⟨false, slot, .vs, .stop⟩
  | .vsStopI slot => ⟨true, slot, .vs, .stop⟩
  | .vsReset slot => ⟨false, slot, .vs, .reset⟩
  | .vsResetI slot => ⟨true, slot, .vs, .reset⟩
  | .vsClear slot => ⟨false, slot, .vs, .clear⟩
  | .vsClearI slot => ⟨true, slot, .vs, .clear⟩
  | .vsStep slot => ⟨false, slot, .vs, .step⟩
  | .vsStepI slot => ⟨true, slot, .vs, .step⟩
  | .vsChgset slot => ⟨false, slot, .vs, .chgset⟩
  | .vsChgsetI slot => ⟨true, slot, .vs, .chgset⟩
  | .vsRevive slot => ⟨false, slot, .vs, .revive⟩
  | .vsReviveI slot => ⟨true, slot, .vs, .revive⟩
  | .vsChgstepf slot => ⟨false, slot, .vs, .chgstepf⟩
  | .vsChgstepfI slot => ⟨true, slot, .vs, .chgstepf⟩
  | .vsChgstepb slot => ⟨false, slot, .vs, .chgstepb⟩
  | .vsChgstepbI slot => ⟨true, slot, .vs, .chgstepb⟩
  | .ctSet slot => ⟨false, slot, .ct, .set⟩
  | .ctSetI slot => ⟨true, slot, .ct, .set⟩
  | .ctStop slot => ⟨false, slot, .ct, .stop⟩
  | .ctStopI slot => ⟨true, slot, .ct, .stop⟩
  | .ctReset slot => ⟨false, slot, .ct, .reset⟩
  | .ctResetI slot => ⟨true, slot, .ct, .reset⟩
  | .ctClear slot => ⟨false, slot, .ct, .clear⟩
  | .ctClearI slot => ⟨true, slot, .ct, .clear⟩
  | .ctStep slot => ⟨false, slot, .ct, .step⟩
  | .ctStepI slot => ⟨true, slot, .ct, .step⟩
  | .ctChgset slot => ⟨false, slot, .ct, .chgset⟩
  | .ctChgsetI slot => ⟨true, slot, .ct, .chgset⟩
  | .cpSet slot => ⟨false, slot, .cp, .set⟩
  | .cpSetI slot => ⟨true, slot, .cp, .set⟩
  | .cpStop slot => ⟨false, slot, .cp, .stop⟩
  | .cpStopI slot => ⟨true, slot, .cp, .stop⟩
  | .cpReset slot => ⟨false, slot, .cp, .reset⟩
  | .cpResetI slot => ⟨true, slot, .cp, .reset⟩
  | .cpClear slot => ⟨false, slot, .cp, .clear⟩
  | .cpClearI slot => ⟨true, slot, .cp, .clear⟩
  | .cpStep slot => ⟨false, slot, .cp, .step⟩
  | .cpStepI slot => ⟨true, slot, .cp, .step⟩
  | .frReset slot => ⟨false, slot, .fr, .reset⟩
  | .frResetI slot => ⟨true, slot, .fr, .reset⟩
  | .frClear slot => ⟨false, slot, .fr, .clear⟩
  | .frClearI slot => ⟨true, slot, .fr, .clear⟩
  | .frStep slot => ⟨false, slot, .fr, .step⟩
  | .frStepI slot => ⟨true, slot, .fr, .step⟩
  | .acSet slot => ⟨false, slot, .ac, .set⟩
  | .acSetI slot => ⟨true, slot, .ac, .set⟩
  | .acStop slot => ⟨false, slot, .ac, .stop⟩
  | .acStopI slot => ⟨true, slot, .ac, .stop⟩
  | .acReset slot => ⟨false, slot, .ac, .reset⟩
  | .acResetI slot => ⟨true, slot, .ac, .reset⟩
  | .acClear slot => ⟨false, slot, .ac, .clear⟩
  | .acClearI slot => ⟨true, slot, .ac, .clear⟩
  | .acStep slot => ⟨false, slot, .ac, .step⟩
  | .acStepI slot => ⟨true, slot, .ac, .step⟩
  | .acChgset slot => ⟨false, slot, .ac, .chgset⟩
  | .acChgsetI slot => ⟨true, slot, .ac, .chgset⟩
  | .acSuspend slot => ⟨false, slot, .ac, .suspend⟩
  | .acSuspendI slot => ⟨true, slot, .ac, .suspend⟩
  | .acResume slot => ⟨false, slot, .ac, .resume⟩
  | .acResumeI slot => ⟨true, slot, .ac, .resume⟩
  | .asSet slot => ⟨false, slot, .as, .set⟩
  | .asSetI slot => ⟨true, slot, .as, .set⟩
  | .asStop slot => ⟨false, slot, .as, .stop⟩
  | .asStopI slot => ⟨true, slot, .as, .stop⟩
  | .asReset slot => ⟨false, slot, .as, .reset⟩
  | .asResetI slot => ⟨true, slot, .as, .reset⟩
  | .asClear slot => ⟨false, slot, .as, .clear⟩
  | .asClearI slot => ⟨true, slot, .as, .clear⟩
  | .asStep slot => ⟨false, slot, .as, .step⟩
  | .asStepI slot => ⟨true, slot, .as, .step⟩
  | .asSuspend slot => ⟨false, slot, .as, .suspend⟩
  | .asSuspendI slot => ⟨true, slot, .as, .suspend⟩
  | .asResume slot => ⟨false, slot, .as, .resume⟩
  | .asResumeI slot => ⟨true, slot, .as, .resume⟩
  | .bgSet slot => ⟨false, slot, .bg, .set⟩
  | .bgSetI slot => ⟨true, slot, .bg, .set⟩
  | .bgStop slot => ⟨false, slot, .bg, .stop⟩
  | .bgStopI slot => ⟨true, slot, .bg, .stop⟩
  | .bgReset slot => ⟨false, slot, .bg, .reset⟩
  | .bgResetI slot => ⟨true, slot, .bg, .reset⟩
  | .bgClear slot => ⟨false, slot, .bg, .clear⟩
  | .bgClearI slot => ⟨true, slot, .bg, .clear⟩
  | .bgStep slot => ⟨false, slot, .bg, .step⟩
  | .bgStepI slot => ⟨true, slot, .bg, .step⟩
  | .bgoSet slot => ⟨false, slot, .bgo, .set⟩
  | .bgoSetI slot => ⟨true, slot, .bgo, .set⟩
  | .bgoStop slot => ⟨false, slot, .bgo, .stop⟩
  | .bgoStopI slot => ⟨true, slot, .bgo, .stop⟩
  | .bgoReset slot => ⟨false, slot, .bgo, .reset⟩
  | .bgoResetI slot => ⟨true, slot, .bgo, .reset⟩
  | .bgoClear slot => ⟨false, slot, .bgo, .clear⟩
  | .bgoClearI slot => ⟨true, slot, .bgo, .clear⟩
  | .bgoStep slot => ⟨false, slot, .bgo, .step⟩
  | .bgoStepI slot => ⟨true, slot, .bgo, .step⟩

/-- The instruction's slot index. -/
def Instr.slot (i : Instr) : SlotIdx := i.cell.slot

/-- The variant the instruction is for. -/
def Instr.variant (i : Instr) : Variant := i.cell.vt

/-- The instruction's operation. -/
def Instr.op (i : Instr) : Op := i.cell.op

/-- Whether the instruction is the already-excluded form, X = 1. -/
def Instr.excluded (i : Instr) : Bool := i.cell.x

/-- The column of SP in the opcode map (30 R144). -/
def instrOfSp (slot : SlotIdx) : Op → Bool → Option Instr
  | .set, false => some (.spSet slot)
  | .set, true => some (.spSetI slot)
  | .stop, false => some (.spStop slot)
  | .stop, true => some (.spStopI slot)
  | .reset, false => some (.spReset slot)
  | .reset, true => some (.spResetI slot)
  | .clear, false => some (.spClear slot)
  | .clear, true => some (.spClearI slot)
  | .step, false => some (.spStep slot)
  | .step, true => some (.spStepI slot)
  | _, _ => none

/-- The column of FB in the opcode map (30 R144). -/
def instrOfFb (slot : SlotIdx) : Op → Bool → Option Instr
  | .set, false => some (.fbSet slot)
  | .set, true => some (.fbSetI slot)
  | .stop, false => some (.fbStop slot)
  | .stop, true => some (.fbStopI slot)
  | .reset, false => some (.fbReset slot)
  | .reset, true => some (.fbResetI slot)
  | .clear, false => some (.fbClear slot)
  | .clear, true => some (.fbClearI slot)
  | .step, false => some (.fbStep slot)
  | .step, true => some (.fbStepI slot)
  | .chgset, false => some (.fbChgset slot)
  | .chgset, true => some (.fbChgsetI slot)
  | .revive, false => some (.fbRevive slot)
  | .revive, true => some (.fbReviveI slot)
  | _, _ => none

/-- The column of VS in the opcode map (30 R144). -/
def instrOfVs (slot : SlotIdx) : Op → Bool → Option Instr
  | .set, false => some (.vsSet slot)
  | .set, true => some (.vsSetI slot)
  | .stop, false => some (.vsStop slot)
  | .stop, true => some (.vsStopI slot)
  | .reset, false => some (.vsReset slot)
  | .reset, true => some (.vsResetI slot)
  | .clear, false => some (.vsClear slot)
  | .clear, true => some (.vsClearI slot)
  | .step, false => some (.vsStep slot)
  | .step, true => some (.vsStepI slot)
  | .chgset, false => some (.vsChgset slot)
  | .chgset, true => some (.vsChgsetI slot)
  | .revive, false => some (.vsRevive slot)
  | .revive, true => some (.vsReviveI slot)
  | .chgstepf, false => some (.vsChgstepf slot)
  | .chgstepf, true => some (.vsChgstepfI slot)
  | .chgstepb, false => some (.vsChgstepb slot)
  | .chgstepb, true => some (.vsChgstepbI slot)
  | _, _ => none

/-- The column of CT in the opcode map (30 R144). -/
def instrOfCt (slot : SlotIdx) : Op → Bool → Option Instr
  | .set, false => some (.ctSet slot)
  | .set, true => some (.ctSetI slot)
  | .stop, false => some (.ctStop slot)
  | .stop, true => some (.ctStopI slot)
  | .reset, false => some (.ctReset slot)
  | .reset, true => some (.ctResetI slot)
  | .clear, false => some (.ctClear slot)
  | .clear, true => some (.ctClearI slot)
  | .step, false => some (.ctStep slot)
  | .step, true => some (.ctStepI slot)
  | .chgset, false => some (.ctChgset slot)
  | .chgset, true => some (.ctChgsetI slot)
  | _, _ => none

/-- The column of CP in the opcode map (30 R144). -/
def instrOfCp (slot : SlotIdx) : Op → Bool → Option Instr
  | .set, false => some (.cpSet slot)
  | .set, true => some (.cpSetI slot)
  | .stop, false => some (.cpStop slot)
  | .stop, true => some (.cpStopI slot)
  | .reset, false => some (.cpReset slot)
  | .reset, true => some (.cpResetI slot)
  | .clear, false => some (.cpClear slot)
  | .clear, true => some (.cpClearI slot)
  | .step, false => some (.cpStep slot)
  | .step, true => some (.cpStepI slot)
  | _, _ => none

/-- The column of FR in the opcode map (30 R144). -/
def instrOfFr (slot : SlotIdx) : Op → Bool → Option Instr
  | .reset, false => some (.frReset slot)
  | .reset, true => some (.frResetI slot)
  | .clear, false => some (.frClear slot)
  | .clear, true => some (.frClearI slot)
  | .step, false => some (.frStep slot)
  | .step, true => some (.frStepI slot)
  | _, _ => none

/-- The column of AC in the opcode map (30 R144). -/
def instrOfAc (slot : SlotIdx) : Op → Bool → Option Instr
  | .set, false => some (.acSet slot)
  | .set, true => some (.acSetI slot)
  | .stop, false => some (.acStop slot)
  | .stop, true => some (.acStopI slot)
  | .reset, false => some (.acReset slot)
  | .reset, true => some (.acResetI slot)
  | .clear, false => some (.acClear slot)
  | .clear, true => some (.acClearI slot)
  | .step, false => some (.acStep slot)
  | .step, true => some (.acStepI slot)
  | .chgset, false => some (.acChgset slot)
  | .chgset, true => some (.acChgsetI slot)
  | .suspend, false => some (.acSuspend slot)
  | .suspend, true => some (.acSuspendI slot)
  | .resume, false => some (.acResume slot)
  | .resume, true => some (.acResumeI slot)
  | _, _ => none

/-- The column of AS in the opcode map (30 R144). -/
def instrOfAs (slot : SlotIdx) : Op → Bool → Option Instr
  | .set, false => some (.asSet slot)
  | .set, true => some (.asSetI slot)
  | .stop, false => some (.asStop slot)
  | .stop, true => some (.asStopI slot)
  | .reset, false => some (.asReset slot)
  | .reset, true => some (.asResetI slot)
  | .clear, false => some (.asClear slot)
  | .clear, true => some (.asClearI slot)
  | .step, false => some (.asStep slot)
  | .step, true => some (.asStepI slot)
  | .suspend, false => some (.asSuspend slot)
  | .suspend, true => some (.asSuspendI slot)
  | .resume, false => some (.asResume slot)
  | .resume, true => some (.asResumeI slot)
  | _, _ => none

/-- The column of BG in the opcode map (30 R144). -/
def instrOfBg (slot : SlotIdx) : Op → Bool → Option Instr
  | .set, false => some (.bgSet slot)
  | .set, true => some (.bgSetI slot)
  | .stop, false => some (.bgStop slot)
  | .stop, true => some (.bgStopI slot)
  | .reset, false => some (.bgReset slot)
  | .reset, true => some (.bgResetI slot)
  | .clear, false => some (.bgClear slot)
  | .clear, true => some (.bgClearI slot)
  | .step, false => some (.bgStep slot)
  | .step, true => some (.bgStepI slot)
  | _, _ => none

/-- The column of BGO in the opcode map (30 R144). -/
def instrOfBgo (slot : SlotIdx) : Op → Bool → Option Instr
  | .set, false => some (.bgoSet slot)
  | .set, true => some (.bgoSetI slot)
  | .stop, false => some (.bgoStop slot)
  | .stop, true => some (.bgoStopI slot)
  | .reset, false => some (.bgoReset slot)
  | .reset, true => some (.bgoResetI slot)
  | .clear, false => some (.bgoClear slot)
  | .clear, true => some (.bgoClearI slot)
  | .step, false => some (.bgoStep slot)
  | .step, true => some (.bgoStepI slot)
  | _, _ => none

/-- The opcode map (30 R144): the instruction of a cell, none at a dash. -/
def instrOfCell (c : Cell) : Option Instr :=
  match c.vt with
  | .sp => instrOfSp c.slot c.op c.x
  | .fb => instrOfFb c.slot c.op c.x
  | .vs => instrOfVs c.slot c.op c.x
  | .ct => instrOfCt c.slot c.op c.x
  | .cp => instrOfCp c.slot c.op c.x
  | .fr => instrOfFr c.slot c.op c.x
  | .ac => instrOfAc c.slot c.op c.x
  | .as => instrOfAs c.slot c.op c.x
  | .bg => instrOfBg c.slot c.op c.x
  | .bgo => instrOfBgo c.slot c.op c.x

/-- The instruction of the four fields of a word whose RSV bits are 0, none where (VT, OP) is no
cell (30 R147 item 2). -/
def instrOfFields (vt op : BitVec 4) (x : Bool) (slot : SlotIdx) : Option Instr :=
  match variantOf vt, opOf op with
  | some v, some o => instrOfCell ⟨x, slot, v, o⟩
  | _, _ => none

/-- The decoder (30 R148, the checks on the word itself). -/
def decode (w : Word) : Except DecodeError Instr :=
  if rsvField w ≠ 0#15 then .error .cmdReserved
  else
    match instrOfFields (vtField w) (opField w) (xField w) (slotField w) with
    | some i => .ok i
    | none => .error .cmdUndefinedOp

/-- The encoder (30 R149). -/
def encode (i : Instr) : Word := cmdWord i.cell

/-- The command word `withFetchWord` writes: the low `nbits` bits of `w`, the others 0. -/
def fetchWord (nbits w : Nat) : Word := BitVec.ofNat 32 (w % 2 ^ nbits)

/-- The instruction the decoder reads from an instruction whose bits are `w`, `nbits` of them given
and the others 0. A command is one 32-bit word (30 R140), so more than 32 bits are no command. -/
def decodeTableWord (nbits w : Nat) : Option Instr :=
  if nbits ≤ 32 then
    match decode (fetchWord nbits w) with
    | .ok i => some i
    | .error _ => none
  else none

end Sys2Proof
end

