-- ==== Sys2Proof/Config.lean ====
section
/-! DEFINITION. What an implementation fixes: the instantiation parameters of 00 R11, and the free
values the spec leaves to a model (60 R803, 93). A `Config` is carried by `State.cfg` and no step
changes it (assumption log entry 1). -/

namespace Sys2Proof

/-- `VS_FWD_OVF`: what a VS forward step does when it passes M - 1 (00 R11, 42 R420). -/
inductive FwdOverflow where
  | wrap
  | saturate
  deriving DecidableEq, Repr, Inhabited

/-- The parameters of one slot (00 R11, 10 R47). -/
structure SlotCfg where
  /-- `VT[i]` -/
  vt : Variant
  /-- `CW[i]`, the counter width in bits, 1 to 32 -/
  cw : Nat
  /-- `K[i]`, the reload constant; read for CP and FR slots only -/
  k : Nat := 0
  /-- `FR_INIT[i]`, the counter of an FR slot after reset -/
  frInit : Nat := 0
  deriving DecidableEq, Repr, Inhabited

/-- The parameters of the block (00 R11). `N_SLOTS` is the length of `slots`. -/
structure Config where
  /-- one entry per slot, slot 0 first -/
  slots : List SlotCfg
  /-- `VS_FWD_OVF` -/
  vsFwdOvf : FwdOverflow
  /-- `T_TICK`, a positive duration in a unit of the platform's; no definition reads it (00 R11) -/
  tTick : Nat
  deriving DecidableEq, Repr, Inhabited

/-- `N_SLOTS` (00 R11). -/
def Config.nSlots (cfg : Config) : Nat := cfg.slots.length

/-- FREE VALUE. The number that field `f` of a slot holds after the n-th `Fault(UNEXCLUDED)`, before
it is brought into the field's range (60 R803, "any value of each field in its range"). No body: no
proof can use what it is. Assumption log entry 7. -/
opaque Config.freeNat : Nat → SlotField → Nat

/-- FREE VALUE. The bit that field `f` of a slot holds after the n-th `Fault(UNEXCLUDED)`
(60 R803). No body. Assumption log entry 7. -/
opaque Config.freeBit : Nat → SlotField → Bool

/-- DESIGN CHOICE (assumption log entry 2). The parameters of `State.reset`: the configuration that
95_test_vectors.md section 3 gives for every program (six slots, CW = 8, slot 5 with K = 3 and
FR_INIT = 0). It leaves VS_FWD_OVF unused and T_TICK unsaid; WRAP and 1 stand in for them. -/
def Config.reference : Config where
  slots := [
    { vt := .sp, cw := 8 }, { vt := .ct, cw := 8 }, { vt := .ac, cw := 8 },
    { vt := .bgo, cw := 8 }, { vt := .fb, cw := 8 }, { vt := .fr, cw := 8, k := 3 }]
  vsFwdOvf := .wrap
  tTick := 1

end Sys2Proof
end

