-- ==== Sys2Proof/Machine/State.lean ====
section
/-! DEFINITION. The machine's state as plain data (10_state.md), the reasons of the spec's refusals
and faults (60 R802, R803), the events that reach the block (40 R200) and the reset state (10 R67,
70 R900). -/

namespace Sys2Proof.Machine

/-- The kinds of fault (60 R803). Raised by a CMD write and kept in `State.faults`; the spec has the
model go on, so no step ends in one (assumption log entry 7). -/
inductive Fault where
  /-- `UNEXCLUDED`, code 1: a CMD write with X = 1 while CTRL.TIE = 1 (40 R213). Safe: the command's
  slot holds free values afterwards, and nothing about them can be proved. -/
  | unexcluded
  deriving DecidableEq, Repr

/-- The reasons of a refusal (60 R802). The six of the spec are kept in `State.refusals`; the spec
ends the step there and not the run, so no step ends in one (assumption log entry 5). -/
inductive Refusal where
  /-- Answered by `exec` for an instruction without a meaning. No arm answers it: every row of the
  opcode table is modelled. Safe: it would stop the run. -/
  | notModelled (mnemonic : String)
  /-- `CMD_RESERVED`, code 1: a CMD write with bits 31:17 not 0. Unsafe to rest a claim on: the
  hardware would do something the spec does not say. -/
  | cmdReserved
  /-- `CMD_UNDEFINED_OP`, code 2: a CMD write whose (VT, OP) is no cell of 30 R144. Unsafe as above. -/
  | cmdUndefinedOp
  /-- `CMD_SLOT_RANGE`, code 3: a CMD write with SLOT ≥ N_SLOTS. Unsafe as above. -/
  | cmdSlotRange
  /-- `CMD_VARIANT_MISMATCH`, code 4: a CMD write with VT ≠ VT[SLOT]. Unsafe as above. -/
  | cmdVariantMismatch
  /-- `BUS_UNMAPPED`, code 5: an access to an offset that is no register. Unsafe as above. -/
  | busUnmapped
  /-- `BUS_ACCESS`, code 6: a size other than 4, an offset not a multiple of 4, a write to a read-only
  register or a read of CMD. Unsafe as above. -/
  | busAccess
  deriving DecidableEq, Repr

/-- One entry of the record `faults`: the kind and the command word, whose SLOT field names the
affected slot (60 R803). -/
structure FaultInfo where
  kind : Fault
  word : Word
  deriving DecidableEq, Repr

/-- What is recorded with a refusal: the reason, the offset of the access and, for a write, the
written value (60 R802). -/
structure RefusalInfo where
  reason : Refusal
  offset : Offset
  value : Option Word
  deriving DecidableEq, Repr

/-- What reaches the block from outside: a TICK of the tick source, or one host access (40 R200,
R201). A host access has a size in bytes, since sizes other than 4 are refused and not impossible
(20 R107). -/
inductive Event where
  /-- one TICK event (40 R202) -/
  | tick
  /-- a host read of `size` bytes at `offset` (20 R105) -/
  | read (offset : Offset) (size : Nat)
  /-- a host write of `size` bytes at `offset` (20 R106) -/
  | write (offset : Offset) (size : Nat) (value : Word)
  deriving DecidableEq, Repr

/-- The record `S[i]` of a slot (10 R48). Every slot has all the fields here; a field its variant
lacks (10 R49) is read by no rule (10 R63, assumption log entry 9). The one-bit enumerations are
Booleans with the encodings of 00 R20. `cnt`, `s0` to `s3` and `rem` are unsigned integers below
`2^CW[i]` (00 R13), which `SlotInv` states and every step keeps. -/
structure Slot where
  /-- the slot advances on each dispatch (10 R50) -/
  active : Bool := false
  /-- the counter (10 R51) -/
  cnt : Nat := 0
  /-- setting 0 (10 R54) -/
  s0 : Nat := 0
  /-- setting 1 (10 R54) -/
  s1 : Nat := 0
  /-- setting 2 (10 R54) -/
  s2 : Nat := 0
  /-- setting 3 (10 R54) -/
  s3 : Nat := 0
  /-- FB, VS: FWD = false, BWD = true (10 R55) -/
  dir : Bool := false
  /-- AC, AS: LOW = false, HIGH = true (10 R56) -/
  state : Bool := false
  /-- AS: FIRST = false, SECOND = true; BG, BGO: LOW = false, HIGH = true (10 R57, R58) -/
  phase : Bool := false
  /-- BG, BGO: remaining pulses of the burst (10 R59) -/
  rem : Nat := 0
  /-- AC, AS: suspended (10 R62) -/
  susp : Bool := false
  /-- completion flag (10 R52) -/
  expired : Bool := false
  /-- tick flag (10 R52) -/
  tickf : Bool := false
  /-- BGO: the output bit (10 R60) -/
  out : Bool := false
  deriving DecidableEq, Repr, Inhabited

/-- The state of the block. -/
structure State where
  /-- the parameters (00 R11), which no step changes; assumption log entry 1 -/
  cfg : Config
  /-- CTRL.TIE (10 R44) -/
  tie : Bool
  /-- CTRL.TPEND (10 R44) -/
  tpend : Bool
  /-- ARG0 (10 R41) -/
  arg0 : Word
  /-- ARG1 (10 R41) -/
  arg1 : Word
  /-- ARG2 (10 R41) -/
  arg2 : Word
  /-- ARG3 (10 R41) -/
  arg3 : Word
  /-- the slots' records, slot 0 first (10 R48) -/
  slots : List Slot
  /-- the record `lost_ticks` (10 R46) -/
  lostTicks : Nat
  /-- the record `faults`, oldest first (10 R46, 60 R803) -/
  faults : List FaultInfo
  /-- the record `refused` (10 R46, 60 R802) -/
  refused : Bool
  /-- the information recorded with each refusal, oldest first (60 R802); assumption log entry 6 -/
  refusals : List RefusalInfo
  /-- the MODEL's own: how many times free values have been drawn; assumption log entry 8 -/
  freeCount : Nat
  /-- the MODEL's own: the events still to come, next first; assumption log entry 3 -/
  inputs : List Event
  /-- the MODEL's own: the word the bus returned in the last step, if that step was an admitted read;
  assumption log entry 4 -/
  rdata : Option Word
  deriving DecidableEq, Repr

/-- What a meaning answers. -/
abbrev Result := Host.Outcome State Fault Refusal

/-- A slot's record after reset: every field 0 except an FR slot's counter, which is `FR_INIT[i]`
(10 R67). -/
def resetSlot (c : SlotCfg) : Slot :=
  { cnt := if c.vt = .fr then c.frInit else 0 }

/-- The reset state of a block built with the parameters `cfg` (10 R67, 70 R900). -/
def State.resetFor (cfg : Config) : State where
  cfg := cfg
  tie := false
  tpend := false
  arg0 := 0#32
  arg1 := 0#32
  arg2 := 0#32
  arg3 := 0#32
  slots := cfg.slots.map resetSlot
  lostTicks := 0
  faults := []
  refused := false
  refusals := []
  freeCount := 0
  inputs := []
  rdata := none

/-- The machine right after reset (70 R900), for the parameters `Config.reference` (assumption log
entry 2). No event waits: none has arrived (assumption log entry 3). -/
def State.reset : State := State.resetFor Config.reference

end Sys2Proof.Machine
end

