-- ==== Sys2Proof/Machine/Operands.lean ====
section
/-! DEFINITION. The arithmetic laws (00 R13 to R17), the encodings of the one-bit fields (00 R20) and
the operand forms of a command (30 R146). -/

namespace Sys2Proof.Machine

/-- `FWD = 0` (00 R20). -/
abbrev fwd : Bool := false
/-- `BWD = 1` (00 R20). -/
abbrev bwd : Bool := true
/-- `LOW = 0`, of `state` and of a BG or BGO `phase` (00 R20). -/
abbrev low : Bool := false
/-- `HIGH = 1`, of `state` and of a BG or BGO `phase` (00 R20). -/
abbrev high : Bool := true
/-- `FIRST = 0`, of an AS `phase` (00 R20). -/
abbrev first : Bool := false
/-- `SECOND = 1`, of an AS `phase` (00 R20). -/
abbrev second : Bool := true

/-- `M = 2^CW[i]` (00 R12). -/
def modulus (c : SlotCfg) : Nat := 2 ^ c.cw

/-- `dec(v) = (v + M - 1) mod M` (00 R13); `dec(0) = M - 1`, so a zero period acts as M (00 R14). -/
def dec (M v : Nat) : Nat := (v + M - 1) % M

/-- `inc(v, d) = (v + d) mod M` (00 R13). -/
def inc (M v d : Nat) : Nat := (v + d) % M

/-- `sat_sub(v, d) = v - d if v ≥ d, else 0` (00 R15). -/
def satSub (v d : Nat) : Nat := if d ≤ v then v - d else 0

/-- The VS forward step: the exact sum where it fits, else what `VS_FWD_OVF` says (42 R420). -/
def vsForward (ovf : FwdOverflow) (M v d : Nat) : Nat :=
  if v + d ≤ M - 1 then v + d
  else
    match ovf with
    | .wrap => v + d - M
    | .saturate => M - 1

/-- `trunc(v) = v mod M` (00 R17). -/
def trunc (c : SlotCfg) (v : Word) : Nat := v.toNat % modulus c

/-- `bit(v) = v[0]` (00 R17). -/
def bitArg (v : Word) : Bool := v.getLsbD 0

/-- `ARG[k]` (00 R19, 10 R41). -/
def State.arg (s : State) (k : Fin 4) : Word :=
  match k with
  | 0 => s.arg0
  | 1 => s.arg1
  | 2 => s.arg2
  | 3 => s.arg3

/-- The operand form `(trunc)` of ARG k (30 R146). -/
def argTrunc (c : SlotCfg) (s : State) (k : Fin 4) : Nat := trunc c (s.arg k)

/-- The operand form `(bit)` of ARG k (30 R146). -/
def argBit (s : State) (k : Fin 4) : Bool := bitArg (s.arg k)

end Sys2Proof.Machine
end

