-- ==== Sys2Proof/Machine/Flags.lean ====
section
/-! DEFINITION. Which fields a variant has (10 R49), the two edge-triggered flags (10 R52, R53) and
the host's views of a slot: STAT (10 R65) and the counter, setting and REM words (10 R66). -/

namespace Sys2Proof.Machine

/-- The presence table (10 R49). -/
def hasField : Variant → SlotField → Bool
  | v, .active => v ≠ .fr
  | _, .cnt => true
  | v, .s0 => v ∈ [.fb, .vs, .ct, .ac, .as, .bg, .bgo]
  | v, .s1 => v ∈ [.vs, .ac, .as, .bg, .bgo]
  | v, .s2 => v ∈ [.vs, .bg, .bgo]
  | v, .s3 => v ∈ [.bg, .bgo]
  | v, .dir => v ∈ [.fb, .vs]
  | v, .state => v ∈ [.ac, .as]
  | v, .phase => v ∈ [.as, .bg, .bgo]
  | v, .rem => v ∈ [.bg, .bgo]
  | v, .susp => v ∈ [.ac, .as]
  | v, .expired => v ∈ [.sp, .fb, .vs, .as]
  | v, .tickf => v ∈ [.ct, .cp, .fr, .ac, .bg, .bgo]
  | v, .out => v ∈ [.bgo]

/-- A one-shot's terminal step: deactivate and set `expired` (41 R300, 42 R400). -/
def Slot.expire (r : Slot) : Slot := { r with active := false, expired := true }

/-- Set the tick flag (43 R500). -/
def Slot.raiseTick (r : Slot) : Slot := { r with tickf := true }

/-- Clear the completion flag. -/
def Slot.clearExpired (r : Slot) : Slot := { r with expired := false }

/-- Clear the tick flag. -/
def Slot.clearTick (r : Slot) : Slot := { r with tickf := false }

/-- Deactivate and clear the completion flag (41 R302). -/
def Slot.disarmOneShot (r : Slot) : Slot := { r with active := false, expired := false }

/-- Deactivate and clear the tick flag (43 R502). -/
def Slot.disarmRepeating (r : Slot) : Slot := { r with active := false, tickf := false }

/-- A STAT bit: the field's value where the variant has the field, else 0 (10 R48, R65). -/
def statBit (v : Variant) (f : SlotField) (b : Bool) : BitVec 1 := BitVec.ofBool (hasField v f && b)

/-- STAT (10 R65). ACTIVE reads 1 for FR. -/
def statWord (v : Variant) (r : Slot) : Word :=
  0#16 ++ variantCode v ++ 0#4 ++ statBit v .out r.out ++ statBit v .susp r.susp ++
    statBit v .phase r.phase ++ statBit v .state r.state ++ statBit v .dir r.dir ++
    statBit v .tickf r.tickf ++ statBit v .expired r.expired ++
    BitVec.ofBool (v = .fr || r.active)

/-- The word of a setting or of `rem`: zero-extended, 0 where the variant lacks it (10 R66). -/
def fieldWord (v : Variant) (f : SlotField) (n : Nat) : Word :=
  if hasField v f then BitVec.ofNat 32 n else 0#32

/-- CNT = `zext_32(cnt)` (10 R66). -/
def cntWord (r : Slot) : Word := BitVec.ofNat 32 r.cnt

/-- S0 to S3; S0 of a CP or FR slot reads `zext_32(K[i])` (10 R66). -/
def settingWord (c : SlotCfg) (r : Slot) (k : Fin 4) : Word :=
  match k with
  | 0 => if c.vt = .cp ∨ c.vt = .fr then BitVec.ofNat 32 c.k else fieldWord c.vt .s0 r.s0
  | 1 => fieldWord c.vt .s1 r.s1
  | 2 => fieldWord c.vt .s2 r.s2
  | 3 => fieldWord c.vt .s3 r.s3

/-- REM = `zext_32(rem)` (10 R66). -/
def remWord (c : SlotCfg) (r : Slot) : Word := fieldWord c.vt .rem r.rem

/-- Write-1-to-clear of EXPIRED and TICKF (10 R65, 40 R214). -/
def clearFlags (v : Variant) (w : Word) (r : Slot) : Slot :=
  { r with
    expired := if w.getLsbD 1 && hasField v .expired then false else r.expired
    tickf := if w.getLsbD 2 && hasField v .tickf then false else r.tickf }

end Sys2Proof.Machine
end

