-- ==== Sys2Proof/Machine/Ops.lean ====
section
/-! DEFINITION. The named operations over the slots and the model's records, and the one operation
every command starts with: the checks of 30 R147 (items 3 and 4) and 40 R213, then the command's
effect on its slot (40 R211). The block has no exception to take (60 R800); what stands in its place
is recording a refusal (60 R802) and recording a fault (60 R803). -/

namespace Sys2Proof.Machine

/-- The record of slot i, all fields 0 where there is none. -/
def State.slotRec (s : State) (i : Nat) : Slot := s.slots.getD i {}

/-- `S[i] <- r`. -/
def State.setSlot (s : State) (i : Nat) (r : Slot) : State := { s with slots := s.slots.set i r }

/-- The offset of CMD (20 R101). -/
def cmdOffset : Offset := 0x0004#16

/-- `raise Refuse(reason)` (60 R802): no register, slot field or CTRL bit changes; the record
`refused` is set and the reason, offset and written value are recorded. -/
def State.refuse (s : State) (reason : Refusal) (off : Offset) (v : Option Word) : State :=
  { s with refused := true, refusals := s.refusals ++ [⟨reason, off, v⟩] }

/-- The code a model reports for a reason (60 R802); no code for a reason that is not the spec's. -/
def refusalCode : Refusal → Option Nat
  | .cmdReserved => some 1
  | .cmdUndefinedOp => some 2
  | .cmdSlotRange => some 3
  | .cmdVariantMismatch => some 4
  | .busUnmapped => some 5
  | .busAccess => some 6
  | _ => none

/-- The code a model reports for a fault (60 R803). -/
def faultCode : Fault → Nat
  | .unexcluded => 1

/-- The reason a word that spells no command is refused for (30 R147). -/
def decodeRefusal : DecodeError → Refusal
  | .cmdReserved => .cmdReserved
  | .cmdUndefinedOp => .cmdUndefinedOp

/-- A number field after a fault: a free value in `0 .. M-1`, where the variant has the field. -/
def tornNat (c : SlotCfg) (n : Nat) (f : SlotField) (old : Nat) : Nat :=
  if hasField c.vt f then Config.freeNat n f % modulus c else old

/-- A one-bit field after a fault: a free bit, where the variant has the field. -/
def tornBit (c : SlotCfg) (n : Nat) (f : SlotField) (old : Bool) : Bool :=
  if hasField c.vt f then Config.freeBit n f else old

/-- The command's slot after `Fault(UNEXCLUDED)`: every field its variant has holds a free value in
its range (60 R803, 93 section 2). -/
def tornSlot (c : SlotCfg) (n : Nat) (r : Slot) : Slot where
  active := tornBit c n .active r.active
  cnt := tornNat c n .cnt r.cnt
  s0 := tornNat c n .s0 r.s0
  s1 := tornNat c n .s1 r.s1
  s2 := tornNat c n .s2 r.s2
  s3 := tornNat c n .s3 r.s3
  dir := tornBit c n .dir r.dir
  state := tornBit c n .state r.state
  phase := tornBit c n .phase r.phase
  rem := tornNat c n .rem r.rem
  susp := tornBit c n .susp r.susp
  expired := tornBit c n .expired r.expired
  tickf := tornBit c n .tickf r.tickf
  out := tornBit c n .out r.out

/-- `raise Fault(UNEXCLUDED)` for the command word `w` on slot i (60 R803, 40 R213): the fault is
appended to `faults`, and the slot goes on with free values. -/
def State.unexcluded (s : State) (c : SlotCfg) (i : Nat) (w : Word) : State :=
  { s with
    faults := s.faults ++ [⟨.unexcluded, w⟩]
    slots := s.slots.set i (tornSlot c s.freeCount (s.slotRec i))
    freeCount := s.freeCount + 1 }

/-- One command (40 R211, after the decoder): refused where its slot does not exist or is of another
variant (30 R147, in this order), a fault where X = 1 and TIE = 1 (40 R213), else `body` gives the
slot's new record (40 R212). -/
def runCommand (i : Instr) (body : SlotCfg → Slot → Slot) (s : State) : Result :=
  match s.cfg.slots[i.slot.toNat]? with
  | none => .next (s.refuse .cmdSlotRange cmdOffset (some (encode i)))
  | some c =>
    if c.vt ≠ i.variant then .next (s.refuse .cmdVariantMismatch cmdOffset (some (encode i)))
    else if i.excluded && s.tie then .next (s.unexcluded c i.slot.toNat (encode i))
    else .next (s.setSlot i.slot.toNat (body c (s.slotRec i.slot.toNat)))

/-- The output line `OUT[i]` of a BGO slot (10 R60). -/
def State.outLine (s : State) (i : Nat) : Bool :=
  s.cfg.slots[i]?.map SlotCfg.vt = some .bgo && (s.slotRec i).out

end Sys2Proof.Machine
end

