-- ==== Sys2Proof/Machine/Asymmetric.lean ====
section
/-! DEFINITION. The meanings of the asymmetric timers AC and AS (44_asymmetric.md): the transition of
each variant, each command's effect on its slot, and one `exec…` per command and form over
`runCommand`. -/

namespace Sys2Proof.Machine

/-- SUSPEND of AC and AS: an armed slot pauses (44 R610, R630). -/
def suspendSlot (r : Slot) : Slot :=
  if r.active then { r with active := false, susp := true } else r

/-- RESUME of AC and AS: a suspended slot goes on (44 R611, R631). -/
def resumeSlot (r : Slot) : Slot :=
  if r.susp then { r with active := true, susp := false } else r

/-- An AC phase's length: settingHigh for HIGH, settingLow for LOW (10 R54). -/
def acLength (r : Slot) (level : Bool) : Nat := if level = high then r.s0 else r.s1

/-- `T_AC(i)` (44 R600): a next phase of length 0 is skipped. -/
def tAc (c : SlotCfg) (r : Slot) : Slot :=
  if r.active then
    let n := dec (modulus c) r.cnt
    if n = 0 then
      let nxt := !r.state
      let ns := acLength r nxt
      if ns ≠ 0 then { r with state := nxt, cnt := ns }.raiseTick
      else { r with cnt := acLength r r.state }.raiseTick
    else { r with cnt := n }
  else r

/-- AC.SET: high in ARG0, low in ARG1 (44 R601; 90 C7). -/
def acSet (c : SlotCfg) (s : State) (r : Slot) : Slot :=
  { r with
    s0 := argTrunc c s 0, s1 := argTrunc c s 1, state := high, cnt := argTrunc c s 0,
    active := true, tickf := false, susp := false }

/-- AC.STOP (44 R602). -/
def acStop (r : Slot) : Slot := { r.disarmRepeating with susp := false }

/-- AC.RESET (44 R603; 90 C2). -/
def acReset (r : Slot) : Slot := { r.disarmRepeating with susp := false }

/-- AC.CLEAR (44 R604). -/
def acClear (r : Slot) : Slot := r.clearTick

/-- AC.CHGSET: high, low, force, state in ARG0 to ARG3 (44 R606). -/
def acChgset (c : SlotCfg) (s : State) (r : Slot) : Slot :=
  { r with
    s0 := argTrunc c s 0, s1 := argTrunc c s 1,
    state := if argBit s 2 then argBit s 3 else r.state }

/-- AC.SUSPEND (44 R610). -/
def acSuspend (r : Slot) : Slot := suspendSlot r

/-- AC.RESUME (44 R611). -/
def acResume (r : Slot) : Slot := resumeSlot r

/-- `T_AS(i)` (44 R620). -/
def tAs (c : SlotCfg) (r : Slot) : Slot :=
  if r.active then
    let n := dec (modulus c) r.cnt
    if n = 0 then
      if r.phase = first ∧ r.s1 ≠ 0 then
        { r with state := !r.state, phase := second, cnt := r.s1 }
      else { r with cnt := n }.expire
    else { r with cnt := n }
  else r

/-- AS.SET: first, second, istate in ARG0 to ARG2 (44 R621; 90 C4). -/
def asSet (c : SlotCfg) (s : State) (r : Slot) : Slot :=
  let f := argTrunc c s 0
  let sc := argTrunc c s 1
  let ist := argBit s 2
  let r := { r with s0 := f, s1 := sc, expired := false, susp := false }
  if f ≠ 0 then { r with phase := first, state := ist, cnt := f, active := true }
  else if sc ≠ 0 then { r with phase := second, state := !ist, cnt := sc, active := true }
  else { r with active := false }

/-- AS.STOP (44 R622). -/
def asStop (r : Slot) : Slot := { r.disarmOneShot with susp := false }

/-- AS.RESET (44 R623; 90 C2). -/
def asReset (r : Slot) : Slot := { r.disarmOneShot with susp := false }

/-- AS.CLEAR (44 R624). -/
def asClear (r : Slot) : Slot := r.clearExpired

/-- AS.SUSPEND (44 R630). -/
def asSuspend (r : Slot) : Slot := suspendSlot r

/-- AS.RESUME (44 R631). -/
def asResume (r : Slot) : Slot := resumeSlot r

/-- `AC.SET` (R601). -/
def execAcSet (slot : SlotIdx) (s : State) : Result :=
  runCommand (.acSet slot) (fun c r => acSet c s r) s

/-- `AC.SETI` (R601). -/
def execAcSetI (slot : SlotIdx) (s : State) : Result :=
  runCommand (.acSetI slot) (fun c r => acSet c s r) s

/-- `AC.STOP` (R602). -/
def execAcStop (slot : SlotIdx) (s : State) : Result :=
  runCommand (.acStop slot) (fun _ r => acStop r) s

/-- `AC.STOPI` (R602). -/
def execAcStopI (slot : SlotIdx) (s : State) : Result :=
  runCommand (.acStopI slot) (fun _ r => acStop r) s

/-- `AC.RESET` (R603). -/
def execAcReset (slot : SlotIdx) (s : State) : Result :=
  runCommand (.acReset slot) (fun _ r => acReset r) s

/-- `AC.RESETI` (R603). -/
def execAcResetI (slot : SlotIdx) (s : State) : Result :=
  runCommand (.acResetI slot) (fun _ r => acReset r) s

/-- `AC.CLEAR` (R604). -/
def execAcClear (slot : SlotIdx) (s : State) : Result :=
  runCommand (.acClear slot) (fun _ r => acClear r) s

/-- `AC.CLEARI` (R604). -/
def execAcClearI (slot : SlotIdx) (s : State) : Result :=
  runCommand (.acClearI slot) (fun _ r => acClear r) s

/-- `AC.STEP` (R605). -/
def execAcStep (slot : SlotIdx) (s : State) : Result :=
  runCommand (.acStep slot) (fun c r => tAc c r) s

/-- `AC.STEPI` (R605). -/
def execAcStepI (slot : SlotIdx) (s : State) : Result :=
  runCommand (.acStepI slot) (fun c r => tAc c r) s

/-- `AC.CHGSET` (R606). -/
def execAcChgset (slot : SlotIdx) (s : State) : Result :=
  runCommand (.acChgset slot) (fun c r => acChgset c s r) s

/-- `AC.CHGSETI` (R606). -/
def execAcChgsetI (slot : SlotIdx) (s : State) : Result :=
  runCommand (.acChgsetI slot) (fun c r => acChgset c s r) s

/-- `AC.SUSPEND` (R610). -/
def execAcSuspend (slot : SlotIdx) (s : State) : Result :=
  runCommand (.acSuspend slot) (fun _ r => acSuspend r) s

/-- `AC.SUSPENDI` (R610). -/
def execAcSuspendI (slot : SlotIdx) (s : State) : Result :=
  runCommand (.acSuspendI slot) (fun _ r => acSuspend r) s

/-- `AC.RESUME` (R611). -/
def execAcResume (slot : SlotIdx) (s : State) : Result :=
  runCommand (.acResume slot) (fun _ r => acResume r) s

/-- `AC.RESUMEI` (R611). -/
def execAcResumeI (slot : SlotIdx) (s : State) : Result :=
  runCommand (.acResumeI slot) (fun _ r => acResume r) s

/-- `AS.SET` (R621). -/
def execAsSet (slot : SlotIdx) (s : State) : Result :=
  runCommand (.asSet slot) (fun c r => asSet c s r) s

/-- `AS.SETI` (R621). -/
def execAsSetI (slot : SlotIdx) (s : State) : Result :=
  runCommand (.asSetI slot) (fun c r => asSet c s r) s

/-- `AS.STOP` (R622). -/
def execAsStop (slot : SlotIdx) (s : State) : Result :=
  runCommand (.asStop slot) (fun _ r => asStop r) s

/-- `AS.STOPI` (R622). -/
def execAsStopI (slot : SlotIdx) (s : State) : Result :=
  runCommand (.asStopI slot) (fun _ r => asStop r) s

/-- `AS.RESET` (R623). -/
def execAsReset (slot : SlotIdx) (s : State) : Result :=
  runCommand (.asReset slot) (fun _ r => asReset r) s

/-- `AS.RESETI` (R623). -/
def execAsResetI (slot : SlotIdx) (s : State) : Result :=
  runCommand (.asResetI slot) (fun _ r => asReset r) s

/-- `AS.CLEAR` (R624). -/
def execAsClear (slot : SlotIdx) (s : State) : Result :=
  runCommand (.asClear slot) (fun _ r => asClear r) s

/-- `AS.CLEARI` (R624). -/
def execAsClearI (slot : SlotIdx) (s : State) : Result :=
  runCommand (.asClearI slot) (fun _ r => asClear r) s

/-- `AS.STEP` (R625). -/
def execAsStep (slot : SlotIdx) (s : State) : Result :=
  runCommand (.asStep slot) (fun c r => tAs c r) s

/-- `AS.STEPI` (R625). -/
def execAsStepI (slot : SlotIdx) (s : State) : Result :=
  runCommand (.asStepI slot) (fun c r => tAs c r) s

/-- `AS.SUSPEND` (R630). -/
def execAsSuspend (slot : SlotIdx) (s : State) : Result :=
  runCommand (.asSuspend slot) (fun _ r => asSuspend r) s

/-- `AS.SUSPENDI` (R630). -/
def execAsSuspendI (slot : SlotIdx) (s : State) : Result :=
  runCommand (.asSuspendI slot) (fun _ r => asSuspend r) s

/-- `AS.RESUME` (R631). -/
def execAsResume (slot : SlotIdx) (s : State) : Result :=
  runCommand (.asResume slot) (fun _ r => asResume r) s

/-- `AS.RESUMEI` (R631). -/
def execAsResumeI (slot : SlotIdx) (s : State) : Result :=
  runCommand (.asResumeI slot) (fun _ r => asResume r) s

end Sys2Proof.Machine
end

