-- ==== Sys2Proof/Machine/Burst.lean ====
section
/-! DEFINITION. The meanings of the Burst Generators BG and BGO (45_burst.md): the transition of
each variant, each command's effect on its slot, and one `exec…` per command and form over
`runCommand`. -/

namespace Sys2Proof.Machine

/-- The phase change of a burst generator whose count has reached 0 (45 R700): LOW to HIGH, with
`rem` reloaded from `pulses` at the start of a burst, or HIGH to LOW, with one pulse less and the
count reloaded from `lt`, or from `it` at the end of the burst. -/
def burstChange (c : SlotCfg) (r : Slot) : Slot :=
  if r.phase = low then
    { r with rem := if r.rem = 0 then r.s0 else r.rem, phase := high, cnt := r.s1 }
  else
    let m := dec (modulus c) r.rem
    { r with phase := low, rem := m, cnt := if m ≠ 0 then r.s2 else r.s3 }

/-- The settings and the start of the pattern that BG.SET and BGO.SET write (45 R701, R721): pulses,
ht, lt, it in ARG0 to ARG3. -/
def burstSet (c : SlotCfg) (s : State) (r : Slot) : Slot :=
  { r with
    s0 := argTrunc c s 0, s1 := argTrunc c s 1, s2 := argTrunc c s 2, s3 := argTrunc c s 3,
    cnt := 1, phase := low, rem := 0, active := true, tickf := false }

/-- `T_BG(i)` (45 R700). -/
def tBg (c : SlotCfg) (r : Slot) : Slot :=
  if r.active then
    let n := dec (modulus c) r.cnt
    if n = 0 then (burstChange c r).raiseTick else { r with cnt := n }
  else r

/-- BG.SET (45 R701). -/
def bgSet (c : SlotCfg) (s : State) (r : Slot) : Slot := burstSet c s r

/-- BG.STOP (45 R702). -/
def bgStop (r : Slot) : Slot := r.disarmRepeating

/-- BG.RESET (45 R703; 90 C2). -/
def bgReset (r : Slot) : Slot := r.disarmRepeating

/-- BG.CLEAR (45 R704). -/
def bgClear (r : Slot) : Slot := r.clearTick

/-- `T_BGO(i)` (45 R720): the output bit takes the new phase in the same step. -/
def tBgo (c : SlotCfg) (r : Slot) : Slot :=
  if r.active then
    let n := dec (modulus c) r.cnt
    if n = 0 then
      if r.phase = low then { burstChange c r with out := true }.raiseTick
      else { burstChange c r with out := false }.raiseTick
    else { r with cnt := n }
  else r

/-- BGO.SET: drives the output low (45 R721). -/
def bgoSet (c : SlotCfg) (s : State) (r : Slot) : Slot := { burstSet c s r with out := false }

/-- BGO.STOP: the output holds its level (45 R722). -/
def bgoStop (r : Slot) : Slot := r.disarmRepeating

/-- BGO.RESET (45 R723; 90 C2). -/
def bgoReset (r : Slot) : Slot := r.disarmRepeating

/-- BGO.CLEAR (45 R724). -/
def bgoClear (r : Slot) : Slot := r.clearTick

/-- `BG.SET` (R701). -/
def execBgSet (slot : SlotIdx) (s : State) : Result :=
  runCommand (.bgSet slot) (fun c r => bgSet c s r) s

/-- `BG.SETI` (R701). -/
def execBgSetI (slot : SlotIdx) (s : State) : Result :=
  runCommand (.bgSetI slot) (fun c r => bgSet c s r) s

/-- `BG.STOP` (R702). -/
def execBgStop (slot : SlotIdx) (s : State) : Result :=
  runCommand (.bgStop slot) (fun _ r => bgStop r) s

/-- `BG.STOPI` (R702). -/
def execBgStopI (slot : SlotIdx) (s : State) : Result :=
  runCommand (.bgStopI slot) (fun _ r => bgStop r) s

/-- `BG.RESET` (R703). -/
def execBgReset (slot : SlotIdx) (s : State) : Result :=
  runCommand (.bgReset slot) (fun _ r => bgReset r) s

/-- `BG.RESETI` (R703). -/
def execBgResetI (slot : SlotIdx) (s : State) : Result :=
  runCommand (.bgResetI slot) (fun _ r => bgReset r) s

/-- `BG.CLEAR` (R704). -/
def execBgClear (slot : SlotIdx) (s : State) : Result :=
  runCommand (.bgClear slot) (fun _ r => bgClear r) s

/-- `BG.CLEARI` (R704). -/
def execBgClearI (slot : SlotIdx) (s : State) : Result :=
  runCommand (.bgClearI slot) (fun _ r => bgClear r) s

/-- `BG.STEP` (R705). -/
def execBgStep (slot : SlotIdx) (s : State) : Result :=
  runCommand (.bgStep slot) (fun c r => tBg c r) s

/-- `BG.STEPI` (R705). -/
def execBgStepI (slot : SlotIdx) (s : State) : Result :=
  runCommand (.bgStepI slot) (fun c r => tBg c r) s

/-- `BGO.SET` (R721). -/
def execBgoSet (slot : SlotIdx) (s : State) : Result :=
  runCommand (.bgoSet slot) (fun c r => bgoSet c s r) s

/-- `BGO.SETI` (R721). -/
def execBgoSetI (slot : SlotIdx) (s : State) : Result :=
  runCommand (.bgoSetI slot) (fun c r => bgoSet c s r) s

/-- `BGO.STOP` (R722). -/
def execBgoStop (slot : SlotIdx) (s : State) : Result :=
  runCommand (.bgoStop slot) (fun _ r => bgoStop r) s

/-- `BGO.STOPI` (R722). -/
def execBgoStopI (slot : SlotIdx) (s : State) : Result :=
  runCommand (.bgoStopI slot) (fun _ r => bgoStop r) s

/-- `BGO.RESET` (R723). -/
def execBgoReset (slot : SlotIdx) (s : State) : Result :=
  runCommand (.bgoReset slot) (fun _ r => bgoReset r) s

/-- `BGO.RESETI` (R723). -/
def execBgoResetI (slot : SlotIdx) (s : State) : Result :=
  runCommand (.bgoResetI slot) (fun _ r => bgoReset r) s

/-- `BGO.CLEAR` (R724). -/
def execBgoClear (slot : SlotIdx) (s : State) : Result :=
  runCommand (.bgoClear slot) (fun _ r => bgoClear r) s

/-- `BGO.CLEARI` (R724). -/
def execBgoClearI (slot : SlotIdx) (s : State) : Result :=
  runCommand (.bgoClearI slot) (fun _ r => bgoClear r) s

/-- `BGO.STEP` (R725). -/
def execBgoStep (slot : SlotIdx) (s : State) : Result :=
  runCommand (.bgoStep slot) (fun c r => tBgo c r) s

/-- `BGO.STEPI` (R725). -/
def execBgoStepI (slot : SlotIdx) (s : State) : Result :=
  runCommand (.bgoStepI slot) (fun c r => tBgo c r) s

end Sys2Proof.Machine
end

