-- ==== Sys2Proof/Machine/Continuous.lean ====
section
/-! DEFINITION. The meanings of the continuous timers CT, CP and FR (43_continuous.md): the transition of
each variant, each command's effect on its slot, and one `exec…` per command and form over
`runCommand`. -/

namespace Sys2Proof.Machine

/-- Count down and reload from `period` at 0, setting the tick flag (43 R500, R520, R540). -/
def countdownReload (c : SlotCfg) (period : Nat) (r : Slot) : Slot :=
  let n := dec (modulus c) r.cnt
  if n = 0 then { r with cnt := period }.raiseTick else { r with cnt := n }

/-- `T_CT(i)` (43 R500). -/
def tCt (c : SlotCfg) (r : Slot) : Slot :=
  if r.active then countdownReload c r.s0 r else r

/-- CT.SET: period in ARG0 (43 R501). -/
def ctSet (c : SlotCfg) (s : State) (r : Slot) : Slot :=
  { r with cnt := argTrunc c s 0, s0 := argTrunc c s 0, active := true, tickf := false }

/-- CT.STOP (43 R502). -/
def ctStop (r : Slot) : Slot := r.disarmRepeating

/-- CT.RESET (43 R503; 90 C2). -/
def ctReset (r : Slot) : Slot := r.disarmRepeating

/-- CT.CLEAR (43 R504). -/
def ctClear (r : Slot) : Slot := r.clearTick

/-- CT.CHGSET: new period in ARG0, from the next reload on (43 R506). -/
def ctChgset (c : SlotCfg) (s : State) (r : Slot) : Slot := { r with s0 := argTrunc c s 0 }

/-- `T_CP(i)` (43 R520). -/
def tCp (c : SlotCfg) (r : Slot) : Slot :=
  if r.active then countdownReload c c.k r else r

/-- CP.SET: first period in ARG0 (43 R521). -/
def cpSet (c : SlotCfg) (s : State) (r : Slot) : Slot :=
  { r with cnt := argTrunc c s 0, active := true, tickf := false }

/-- CP.STOP (43 R522). -/
def cpStop (r : Slot) : Slot := r.disarmRepeating

/-- CP.RESET (43 R523; 90 C2). -/
def cpReset (r : Slot) : Slot := r.disarmRepeating

/-- CP.CLEAR (43 R524). -/
def cpClear (r : Slot) : Slot := r.clearTick

/-- `T_FR(i)`, with no `active` test (43 R540; 90 C11). -/
def tFr (c : SlotCfg) (r : Slot) : Slot := countdownReload c c.k r

/-- FR.RESET: new first period in ARG0 (43 R541; 90 C9). -/
def frReset (c : SlotCfg) (s : State) (r : Slot) : Slot :=
  { r with cnt := argTrunc c s 0, tickf := false }

/-- FR.CLEAR (43 R542). -/
def frClear (r : Slot) : Slot := r.clearTick

/-- `CT.SET` (R501). -/
def execCtSet (slot : SlotIdx) (s : State) : Result :=
  runCommand (.ctSet slot) (fun c r => ctSet c s r) s

/-- `CT.SETI` (R501). -/
def execCtSetI (slot : SlotIdx) (s : State) : Result :=
  runCommand (.ctSetI slot) (fun c r => ctSet c s r) s

/-- `CT.STOP` (R502). -/
def execCtStop (slot : SlotIdx) (s : State) : Result :=
  runCommand (.ctStop slot) (fun _ r => ctStop r) s

/-- `CT.STOPI` (R502). -/
def execCtStopI (slot : SlotIdx) (s : State) : Result :=
  runCommand (.ctStopI slot) (fun _ r => ctStop r) s

/-- `CT.RESET` (R503). -/
def execCtReset (slot : SlotIdx) (s : State) : Result :=
  runCommand (.ctReset slot) (fun _ r => ctReset r) s

/-- `CT.RESETI` (R503). -/
def execCtResetI (slot : SlotIdx) (s : State) : Result :=
  runCommand (.ctResetI slot) (fun _ r => ctReset r) s

/-- `CT.CLEAR` (R504). -/
def execCtClear (slot : SlotIdx) (s : State) : Result :=
  runCommand (.ctClear slot) (fun _ r => ctClear r) s

/-- `CT.CLEARI` (R504). -/
def execCtClearI (slot : SlotIdx) (s : State) : Result :=
  runCommand (.ctClearI slot) (fun _ r => ctClear r) s

/-- `CT.STEP` (R505). -/
def execCtStep (slot : SlotIdx) (s : State) : Result :=
  runCommand (.ctStep slot) (fun c r => tCt c r) s

/-- `CT.STEPI` (R505). -/
def execCtStepI (slot : SlotIdx) (s : State) : Result :=
  runCommand (.ctStepI slot) (fun c r => tCt c r) s

/-- `CT.CHGSET` (R506). -/
def execCtChgset (slot : SlotIdx) (s : State) : Result :=
  runCommand (.ctChgset slot) (fun c r => ctChgset c s r) s

/-- `CT.CHGSETI` (R506). -/
def execCtChgsetI (slot : SlotIdx) (s : State) : Result :=
  runCommand (.ctChgsetI slot) (fun c r => ctChgset c s r) s

/-- `CP.SET` (R521). -/
def execCpSet (slot : SlotIdx) (s : State) : Result :=
  runCommand (.cpSet slot) (fun c r => cpSet c s r) s

/-- `CP.SETI` (R521). -/
def execCpSetI (slot : SlotIdx) (s : State) : Result :=
  runCommand (.cpSetI slot) (fun c r => cpSet c s r) s

/-- `CP.STOP` (R522). -/
def execCpStop (slot : SlotIdx) (s : State) : Result :=
  runCommand (.cpStop slot) (fun _ r => cpStop r) s

/-- `CP.STOPI` (R522). -/
def execCpStopI (slot : SlotIdx) (s : State) : Result :=
  runCommand (.cpStopI slot) (fun _ r => cpStop r) s

/-- `CP.RESET` (R523). -/
def execCpReset (slot : SlotIdx) (s : State) : Result :=
  runCommand (.cpReset slot) (fun _ r => cpReset r) s

/-- `CP.RESETI` (R523). -/
def execCpResetI (slot : SlotIdx) (s : State) : Result :=
  runCommand (.cpResetI slot) (fun _ r => cpReset r) s

/-- `CP.CLEAR` (R524). -/
def execCpClear (slot : SlotIdx) (s : State) : Result :=
  runCommand (.cpClear slot) (fun _ r => cpClear r) s

/-- `CP.CLEARI` (R524). -/
def execCpClearI (slot : SlotIdx) (s : State) : Result :=
  runCommand (.cpClearI slot) (fun _ r => cpClear r) s

/-- `CP.STEP` (R525). -/
def execCpStep (slot : SlotIdx) (s : State) : Result :=
  runCommand (.cpStep slot) (fun c r => tCp c r) s

/-- `CP.STEPI` (R525). -/
def execCpStepI (slot : SlotIdx) (s : State) : Result :=
  runCommand (.cpStepI slot) (fun c r => tCp c r) s

/-- `FR.RESET` (R541). -/
def execFrReset (slot : SlotIdx) (s : State) : Result :=
  runCommand (.frReset slot) (fun c r => frReset c s r) s

/-- `FR.RESETI` (R541). -/
def execFrResetI (slot : SlotIdx) (s : State) : Result :=
  runCommand (.frResetI slot) (fun c r => frReset c s r) s

/-- `FR.CLEAR` (R542). -/
def execFrClear (slot : SlotIdx) (s : State) : Result :=
  runCommand (.frClear slot) (fun _ r => frClear r) s

/-- `FR.CLEARI` (R542). -/
def execFrClearI (slot : SlotIdx) (s : State) : Result :=
  runCommand (.frClearI slot) (fun _ r => frClear r) s

/-- `FR.STEP` (R543). -/
def execFrStep (slot : SlotIdx) (s : State) : Result :=
  runCommand (.frStep slot) (fun c r => tFr c r) s

/-- `FR.STEPI` (R543). -/
def execFrStepI (slot : SlotIdx) (s : State) : Result :=
  runCommand (.frStepI slot) (fun c r => tFr c r) s

end Sys2Proof.Machine
end

