-- ==== Sys2Proof/Machine/ForwardBackward.lean ====
section
/-! DEFINITION. The meanings of the Forward/Backward timers FB and VS (42_forward_backward.md): the transition of
each variant, each command's effect on its slot, and one `exec…` per command and form over
`runCommand`. -/

namespace Sys2Proof.Machine

/-- The forward threshold test of FB and VS, after the counter or the setting has its new value
(42 R400, R420). -/
def reachThreshold (r : Slot) : Slot := if r.s0 ≤ r.cnt then r.expire else r

/-- The live re-evaluation of FB and VS CHGSET (42 R406, R426): armed forward slots only. -/
def recheckThreshold (r : Slot) : Slot :=
  if r.active && r.dir = fwd then reachThreshold r else r

/-- `T_FB(i)` (42 R400). -/
def tFb (c : SlotCfg) (r : Slot) : Slot :=
  if r.active then
    if r.dir = fwd then reachThreshold { r with cnt := inc (modulus c) r.cnt 1 }
    else { r with cnt := satSub r.cnt 1 }
  else r

/-- FB.SET: setting in ARG0, direction in ARG1 (42 R401). -/
def fbSet (c : SlotCfg) (s : State) (r : Slot) : Slot :=
  { r with
    s0 := argTrunc c s 0, dir := argBit s 1, cnt := 0, active := true, expired := false }

/-- FB.STOP (42 R402). -/
def fbStop (r : Slot) : Slot := r.disarmOneShot

/-- FB.RESET (42 R403; 90 C2). -/
def fbReset (r : Slot) : Slot := r.disarmOneShot

/-- FB.CLEAR (42 R404). -/
def fbClear (r : Slot) : Slot := r.clearExpired

/-- FB.CHGSET: new setting in ARG0 (42 R406). -/
def fbChgset (c : SlotCfg) (s : State) (r : Slot) : Slot :=
  recheckThreshold { r with s0 := argTrunc c s 0 }

/-- FB.REVIVE (42 R407). -/
def fbRevive (r : Slot) : Slot := { r with active := true, dir := bwd }

/-- `T_VS(i)` (42 R420). -/
def tVs (ovf : FwdOverflow) (c : SlotCfg) (r : Slot) : Slot :=
  if r.active then
    if r.dir = fwd then reachThreshold { r with cnt := vsForward ovf (modulus c) r.cnt r.s1 }
    else { r with cnt := satSub r.cnt r.s2 }
  else r

/-- VS.SET: setting, direction, stepForward, stepBackward in ARG0 to ARG3 (42 R421). -/
def vsSet (c : SlotCfg) (s : State) (r : Slot) : Slot :=
  { r with
    s0 := argTrunc c s 0, dir := argBit s 1, s1 := argTrunc c s 2, s2 := argTrunc c s 3,
    cnt := 0, active := true, expired := false }

/-- VS.STOP (42 R422). -/
def vsStop (r : Slot) : Slot := r.disarmOneShot

/-- VS.RESET (42 R423; 90 C2). -/
def vsReset (r : Slot) : Slot := r.disarmOneShot

/-- VS.CLEAR (42 R424). -/
def vsClear (r : Slot) : Slot := r.clearExpired

/-- VS.CHGSET: new setting in ARG0 (42 R426). -/
def vsChgset (c : SlotCfg) (s : State) (r : Slot) : Slot :=
  recheckThreshold { r with s0 := argTrunc c s 0 }

/-- VS.REVIVE (42 R427). -/
def vsRevive (r : Slot) : Slot := { r with active := true, dir := bwd }

/-- VS.CHGSTEPF: new stepForward in ARG0 (42 R428). -/
def vsChgstepf (c : SlotCfg) (s : State) (r : Slot) : Slot := { r with s1 := argTrunc c s 0 }

/-- VS.CHGSTEPB: new stepBackward in ARG0 (42 R429). -/
def vsChgstepb (c : SlotCfg) (s : State) (r : Slot) : Slot := { r with s2 := argTrunc c s 0 }

/-- `FB.SET` (R401). -/
def execFbSet (slot : SlotIdx) (s : State) : Result :=
  runCommand (.fbSet slot) (fun c r => fbSet c s r) s

/-- `FB.SETI` (R401). -/
def execFbSetI (slot : SlotIdx) (s : State) : Result :=
  runCommand (.fbSetI slot) (fun c r => fbSet c s r) s

/-- `FB.STOP` (R402). -/
def execFbStop (slot : SlotIdx) (s : State) : Result :=
  runCommand (.fbStop slot) (fun _ r => fbStop r) s

/-- `FB.STOPI` (R402). -/
def execFbStopI (slot : SlotIdx) (s : State) : Result :=
  runCommand (.fbStopI slot) (fun _ r => fbStop r) s

/-- `FB.RESET` (R403). -/
def execFbReset (slot : SlotIdx) (s : State) : Result :=
  runCommand (.fbReset slot) (fun _ r => fbReset r) s

/-- `FB.RESETI` (R403). -/
def execFbResetI (slot : SlotIdx) (s : State) : Result :=
  runCommand (.fbResetI slot) (fun _ r => fbReset r) s

/-- `FB.CLEAR` (R404). -/
def execFbClear (slot : SlotIdx) (s : State) : Result :=
  runCommand (.fbClear slot) (fun _ r => fbClear r) s

/-- `FB.CLEARI` (R404). -/
def execFbClearI (slot : SlotIdx) (s : State) : Result :=
  runCommand (.fbClearI slot) (fun _ r => fbClear r) s

/-- `FB.STEP` (R405). -/
def execFbStep (slot : SlotIdx) (s : State) : Result :=
  runCommand (.fbStep slot) (fun c r => tFb c r) s

/-- `FB.STEPI` (R405). -/
def execFbStepI (slot : SlotIdx) (s : State) : Result :=
  runCommand (.fbStepI slot) (fun c r => tFb c r) s

/-- `FB.CHGSET` (R406). -/
def execFbChgset (slot : SlotIdx) (s : State) : Result :=
  runCommand (.fbChgset slot) (fun c r => fbChgset c s r) s

/-- `FB.CHGSETI` (R406). -/
def execFbChgsetI (slot : SlotIdx) (s : State) : Result :=
  runCommand (.fbChgsetI slot) (fun c r => fbChgset c s r) s

/-- `FB.REVIVE` (R407). -/
def execFbRevive (slot : SlotIdx) (s : State) : Result :=
  runCommand (.fbRevive slot) (fun _ r => fbRevive r) s

/-- `FB.REVIVEI` (R407). -/
def execFbReviveI (slot : SlotIdx) (s : State) : Result :=
  runCommand (.fbReviveI slot) (fun _ r => fbRevive r) s

/-- `VS.SET` (R421). -/
def execVsSet (slot : SlotIdx) (s : State) : Result :=
  runCommand (.vsSet slot) (fun c r => vsSet c s r) s

/-- `VS.SETI` (R421). -/
def execVsSetI (slot : SlotIdx) (s : State) : Result :=
  runCommand (.vsSetI slot) (fun c r => vsSet c s r) s

/-- `VS.STOP` (R422). -/
def execVsStop (slot : SlotIdx) (s : State) : Result :=
  runCommand (.vsStop slot) (fun _ r => vsStop r) s

/-- `VS.STOPI` (R422). -/
def execVsStopI (slot : SlotIdx) (s : State) : Result :=
  runCommand (.vsStopI slot) (fun _ r => vsStop r) s

/-- `VS.RESET` (R423). -/
def execVsReset (slot : SlotIdx) (s : State) : Result :=
  runCommand (.vsReset slot) (fun _ r => vsReset r) s

/-- `VS.RESETI` (R423). -/
def execVsResetI (slot : SlotIdx) (s : State) : Result :=
  runCommand (.vsResetI slot) (fun _ r => vsReset r) s

/-- `VS.CLEAR` (R424). -/
def execVsClear (slot : SlotIdx) (s : State) : Result :=
  runCommand (.vsClear slot) (fun _ r => vsClear r) s

/-- `VS.CLEARI` (R424). -/
def execVsClearI (slot : SlotIdx) (s : State) : Result :=
  runCommand (.vsClearI slot) (fun _ r => vsClear r) s

/-- `VS.STEP` (R425). -/
def execVsStep (slot : SlotIdx) (s : State) : Result :=
  runCommand (.vsStep slot) (fun c r => tVs s.cfg.vsFwdOvf c r) s

/-- `VS.STEPI` (R425). -/
def execVsStepI (slot : SlotIdx) (s : State) : Result :=
  runCommand (.vsStepI slot) (fun c r => tVs s.cfg.vsFwdOvf c r) s

/-- `VS.CHGSET` (R426). -/
def execVsChgset (slot : SlotIdx) (s : State) : Result :=
  runCommand (.vsChgset slot) (fun c r => vsChgset c s r) s

/-- `VS.CHGSETI` (R426). -/
def execVsChgsetI (slot : SlotIdx) (s : State) : Result :=
  runCommand (.vsChgsetI slot) (fun c r => vsChgset c s r) s

/-- `VS.REVIVE` (R427). -/
def execVsRevive (slot : SlotIdx) (s : State) : Result :=
  runCommand (.vsRevive slot) (fun _ r => vsRevive r) s

/-- `VS.REVIVEI` (R427). -/
def execVsReviveI (slot : SlotIdx) (s : State) : Result :=
  runCommand (.vsReviveI slot) (fun _ r => vsRevive r) s

/-- `VS.CHGSTEPF` (R428). -/
def execVsChgstepf (slot : SlotIdx) (s : State) : Result :=
  runCommand (.vsChgstepf slot) (fun c r => vsChgstepf c s r) s

/-- `VS.CHGSTEPFI` (R428). -/
def execVsChgstepfI (slot : SlotIdx) (s : State) : Result :=
  runCommand (.vsChgstepfI slot) (fun c r => vsChgstepf c s r) s

/-- `VS.CHGSTEPB` (R429). -/
def execVsChgstepb (slot : SlotIdx) (s : State) : Result :=
  runCommand (.vsChgstepb slot) (fun c r => vsChgstepb c s r) s

/-- `VS.CHGSTEPBI` (R429). -/
def execVsChgstepbI (slot : SlotIdx) (s : State) : Result :=
  runCommand (.vsChgstepbI slot) (fun c r => vsChgstepb c s r) s

end Sys2Proof.Machine
end

