-- ==== Sys2Proof/Machine/SinglePulse.lean ====
section
/-! DEFINITION. The meanings of the Single-Pulse Timer (41_single_pulse.md): the transition of
each variant, each command's effect on its slot, and one `exec…` per command and form over
`runCommand`. -/

namespace Sys2Proof.Machine

/-- `T_SP(i)` (41 R300). -/
def tSp (c : SlotCfg) (r : Slot) : Slot :=
  if r.active then
    let n := dec (modulus c) r.cnt
    if n = 0 then { r with cnt := n }.expire else { r with cnt := n }
  else r

/-- SP.SET: arm with the period of ARG0 (41 R301). -/
def spSet (c : SlotCfg) (s : State) (r : Slot) : Slot :=
  { r with cnt := argTrunc c s 0, active := true, expired := false }

/-- SP.STOP (41 R302). -/
def spStop (r : Slot) : Slot := r.disarmOneShot

/-- SP.RESET (41 R303; 90 C2). -/
def spReset (r : Slot) : Slot := r.disarmOneShot

/-- SP.CLEAR (41 R304). -/
def spClear (r : Slot) : Slot := r.clearExpired

/-- `SP.SET` (R301). -/
def execSpSet (slot : SlotIdx) (s : State) : Result :=
  runCommand (.spSet slot) (fun c r => spSet c s r) s

/-- `SP.SETI` (R301). -/
def execSpSetI (slot : SlotIdx) (s : State) : Result :=
  runCommand (.spSetI slot) (fun c r => spSet c s r) s

/-- `SP.STOP` (R302). -/
def execSpStop (slot : SlotIdx) (s : State) : Result :=
  runCommand (.spStop slot) (fun _ r => spStop r) s

/-- `SP.STOPI` (R302). -/
def execSpStopI (slot : SlotIdx) (s : State) : Result :=
  runCommand (.spStopI slot) (fun _ r => spStop r) s

/-- `SP.RESET` (R303). -/
def execSpReset (slot : SlotIdx) (s : State) : Result :=
  runCommand (.spReset slot) (fun _ r => spReset r) s

/-- `SP.RESETI` (R303). -/
def execSpResetI (slot : SlotIdx) (s : State) : Result :=
  runCommand (.spResetI slot) (fun _ r => spReset r) s

/-- `SP.CLEAR` (R304). -/
def execSpClear (slot : SlotIdx) (s : State) : Result :=
  runCommand (.spClear slot) (fun _ r => spClear r) s

/-- `SP.CLEARI` (R304). -/
def execSpClearI (slot : SlotIdx) (s : State) : Result :=
  runCommand (.spClearI slot) (fun _ r => spClear r) s

/-- `SP.STEP` (R305). -/
def execSpStep (slot : SlotIdx) (s : State) : Result :=
  runCommand (.spStep slot) (fun c r => tSp c r) s

/-- `SP.STEPI` (R305). -/
def execSpStepI (slot : SlotIdx) (s : State) : Result :=
  runCommand (.spStepI slot) (fun c r => tSp c r) s

end Sys2Proof.Machine
end

