-- ==== Sys2Proof/Machine/Dispatch.lean ====
section
/-! DEFINITION. One arm per command: which definition is its meaning (40 R211). -/

namespace Sys2Proof.Machine

def exec (i : Instr) (s : State) : Host.Outcome State Fault Refusal :=
  match i with
  | .spSet slot => Sys2Proof.Machine.execSpSet slot s
  | .spSetI slot => Sys2Proof.Machine.execSpSetI slot s
  | .spStop slot => Sys2Proof.Machine.execSpStop slot s
  | .spStopI slot => Sys2Proof.Machine.execSpStopI slot s
  | .spReset slot => Sys2Proof.Machine.execSpReset slot s
  | .spResetI slot => Sys2Proof.Machine.execSpResetI slot s
  | .spClear slot => Sys2Proof.Machine.execSpClear slot s
  | .spClearI slot => Sys2Proof.Machine.execSpClearI slot s
  | .spStep slot => Sys2Proof.Machine.execSpStep slot s
  | .spStepI slot => Sys2Proof.Machine.execSpStepI slot s
  | .fbSet slot => Sys2Proof.Machine.execFbSet slot s
  | .fbSetI slot => Sys2Proof.Machine.execFbSetI slot s
  | .fbStop slot => Sys2Proof.Machine.execFbStop slot s
  | .fbStopI slot => Sys2Proof.Machine.execFbStopI slot s
  | .fbReset slot => Sys2Proof.Machine.execFbReset slot s
  | .fbResetI slot => Sys2Proof.Machine.execFbResetI slot s
  | .fbClear slot => Sys2Proof.Machine.execFbClear slot s
  | .fbClearI slot => Sys2Proof.Machine.execFbClearI slot s
  | .fbStep slot => Sys2Proof.Machine.execFbStep slot s
  | .fbStepI slot => Sys2Proof.Machine.execFbStepI slot s
  | .fbChgset slot => Sys2Proof.Machine.execFbChgset slot s
  | .fbChgsetI slot => Sys2Proof.Machine.execFbChgsetI slot s
  | .fbRevive slot => Sys2Proof.Machine.execFbRevive slot s
  | .fbReviveI slot => Sys2Proof.Machine.execFbReviveI slot s
  | .vsSet slot => Sys2Proof.Machine.execVsSet slot s
  | .vsSetI slot => Sys2Proof.Machine.execVsSetI slot s
  | .vsStop slot => Sys2Proof.Machine.execVsStop slot s
  | .vsStopI slot => Sys2Proof.Machine.execVsStopI slot s
  | .vsReset slot => Sys2Proof.Machine.execVsReset slot s
  | .vsResetI slot => Sys2Proof.Machine.execVsResetI slot s
  | .vsClear slot => Sys2Proof.Machine.execVsClear slot s
  | .vsClearI slot => Sys2Proof.Machine.execVsClearI slot s
  | .vsStep slot => Sys2Proof.Machine.execVsStep slot s
  | .vsStepI slot => Sys2Proof.Machine.execVsStepI slot s
  | .vsChgset slot => Sys2Proof.Machine.execVsChgset slot s
  | .vsChgsetI slot => Sys2Proof.Machine.execVsChgsetI slot s
  | .vsRevive slot => Sys2Proof.Machine.execVsRevive slot s
  | .vsReviveI slot => Sys2Proof.Machine.execVsReviveI slot s
  | .vsChgstepf slot => Sys2Proof.Machine.execVsChgstepf slot s
  | .vsChgstepfI slot => Sys2Proof.Machine.execVsChgstepfI slot s
  | .vsChgstepb slot => Sys2Proof.Machine.execVsChgstepb slot s
  | .vsChgstepbI slot => Sys2Proof.Machine.execVsChgstepbI slot s
  | .ctSet slot => Sys2Proof.Machine.execCtSet slot s
  | .ctSetI slot => Sys2Proof.Machine.execCtSetI slot s
  | .ctStop slot => Sys2Proof.Machine.execCtStop slot s
  | .ctStopI slot => Sys2Proof.Machine.execCtStopI slot s
  | .ctReset slot => Sys2Proof.Machine.execCtReset slot s
  | .ctResetI slot => Sys2Proof.Machine.execCtResetI slot s
  | .ctClear slot => Sys2Proof.Machine.execCtClear slot s
  | .ctClearI slot => Sys2Proof.Machine.execCtClearI slot s
  | .ctStep slot => Sys2Proof.Machine.execCtStep slot s
  | .ctStepI slot => Sys2Proof.Machine.execCtStepI slot s
  | .ctChgset slot => Sys2Proof.Machine.execCtChgset slot s
  | .ctChgsetI slot => Sys2Proof.Machine.execCtChgsetI slot s
  | .cpSet slot => Sys2Proof.Machine.execCpSet slot s
  | .cpSetI slot => Sys2Proof.Machine.execCpSetI slot s
  | .cpStop slot => Sys2Proof.Machine.execCpStop slot s
  | .cpStopI slot => Sys2Proof.Machine.execCpStopI slot s
  | .cpReset slot => Sys2Proof.Machine.execCpReset slot s
  | .cpResetI slot => Sys2Proof.Machine.execCpResetI slot s
  | .cpClear slot => Sys2Proof.Machine.execCpClear slot s
  | .cpClearI slot => Sys2Proof.Machine.execCpClearI slot s
  | .cpStep slot => Sys2Proof.Machine.execCpStep slot s
  | .cpStepI slot => Sys2Proof.Machine.execCpStepI slot s
  | .frReset slot => Sys2Proof.Machine.execFrReset slot s
  | .frResetI slot => Sys2Proof.Machine.execFrResetI slot s
  | .frClear slot => Sys2Proof.Machine.execFrClear slot s
  | .frClearI slot => Sys2Proof.Machine.execFrClearI slot s
  | .frStep slot => Sys2Proof.Machine.execFrStep slot s
  | .frStepI slot => Sys2Proof.Machine.execFrStepI slot s
  | .acSet slot => Sys2Proof.Machine.execAcSet slot s
  | .acSetI slot => Sys2Proof.Machine.execAcSetI slot s
  | .acStop slot => Sys2Proof.Machine.execAcStop slot s
  | .acStopI slot => Sys2Proof.Machine.execAcStopI slot s
  | .acReset slot => Sys2Proof.Machine.execAcReset slot s
  | .acResetI slot => Sys2Proof.Machine.execAcResetI slot s
  | .acClear slot => Sys2Proof.Machine.execAcClear slot s
  | .acClearI slot => Sys2Proof.Machine.execAcClearI slot s
  | .acStep slot => Sys2Proof.Machine.execAcStep slot s
  | .acStepI slot => Sys2Proof.Machine.execAcStepI slot s
  | .acChgset slot => Sys2Proof.Machine.execAcChgset slot s
  | .acChgsetI slot => Sys2Proof.Machine.execAcChgsetI slot s
  | .acSuspend slot => Sys2Proof.Machine.execAcSuspend slot s
  | .acSuspendI slot => Sys2Proof.Machine.execAcSuspendI slot s
  | .acResume slot => Sys2Proof.Machine.execAcResume slot s
  | .acResumeI slot => Sys2Proof.Machine.execAcResumeI slot s
  | .asSet slot => Sys2Proof.Machine.execAsSet slot s
  | .asSetI slot => Sys2Proof.Machine.execAsSetI slot s
  | .asStop slot => Sys2Proof.Machine.execAsStop slot s
  | .asStopI slot => Sys2Proof.Machine.execAsStopI slot s
  | .asReset slot => Sys2Proof.Machine.execAsReset slot s
  | .asResetI slot => Sys2Proof.Machine.execAsResetI slot s
  | .asClear slot => Sys2Proof.Machine.execAsClear slot s
  | .asClearI slot => Sys2Proof.Machine.execAsClearI slot s
  | .asStep slot => Sys2Proof.Machine.execAsStep slot s
  | .asStepI slot => Sys2Proof.Machine.execAsStepI slot s
  | .asSuspend slot => Sys2Proof.Machine.execAsSuspend slot s
  | .asSuspendI slot => Sys2Proof.Machine.execAsSuspendI slot s
  | .asResume slot => Sys2Proof.Machine.execAsResume slot s
  | .asResumeI slot => Sys2Proof.Machine.execAsResumeI slot s
  | .bgSet slot => Sys2Proof.Machine.execBgSet slot s
  | .bgSetI slot => Sys2Proof.Machine.execBgSetI slot s
  | .bgStop slot => Sys2Proof.Machine.execBgStop slot s
  | .bgStopI slot => Sys2Proof.Machine.execBgStopI slot s
  | .bgReset slot => Sys2Proof.Machine.execBgReset slot s
  | .bgResetI slot => Sys2Proof.Machine.execBgResetI slot s
  | .bgClear slot => Sys2Proof.Machine.execBgClear slot s
  | .bgClearI slot => Sys2Proof.Machine.execBgClearI slot s
  | .bgStep slot => Sys2Proof.Machine.execBgStep slot s
  | .bgStepI slot => Sys2Proof.Machine.execBgStepI slot s
  | .bgoSet slot => Sys2Proof.Machine.execBgoSet slot s
  | .bgoSetI slot => Sys2Proof.Machine.execBgoSetI slot s
  | .bgoStop slot => Sys2Proof.Machine.execBgoStop slot s
  | .bgoStopI slot => Sys2Proof.Machine.execBgoStopI slot s
  | .bgoReset slot => Sys2Proof.Machine.execBgoReset slot s
  | .bgoResetI slot => Sys2Proof.Machine.execBgoResetI slot s
  | .bgoClear slot => Sys2Proof.Machine.execBgoClear slot s
  | .bgoClearI slot => Sys2Proof.Machine.execBgoClearI slot s
  | .bgoStep slot => Sys2Proof.Machine.execBgoStep slot s
  | .bgoStepI slot => Sys2Proof.Machine.execBgoStepI slot s

end Sys2Proof.Machine
end

