-- ==== Sys2Proof/Machine/Tick.lean ====
section
/-! DEFINITION. The TICK event and the Tick Dispatcher (40 R202 to R204, R206, R809): the one shared
operation that stands where a processor takes an interrupt. It saves nothing and changes no mode
(60 R809), and there is no return from it (60 R810). -/

namespace Sys2Proof.Machine

/-- `T_<VT>(i)`, the transition of a slot's variant (40 R203). -/
def transition (ovf : FwdOverflow) (c : SlotCfg) (r : Slot) : Slot :=
  match c.vt with
  | .sp => tSp c r
  | .fb => tFb c r
  | .vs => tVs ovf c r
  | .ct => tCt c r
  | .cp => tCp c r
  | .fr => tFr c r
  | .ac => tAc c r
  | .as => tAs c r
  | .bg => tBg c r
  | .bgo => tBgo c r

/-- Every slot's transition once (40 R203, R204). -/
def dispatchSlots (ovf : FwdOverflow) : List SlotCfg → List Slot → List Slot
  | c :: cs, r :: rs => transition ovf c r :: dispatchSlots ovf cs rs
  | _, rs => rs

/-- `Dispatch()` (40 R203). -/
def dispatch (s : State) : State :=
  { s with slots := dispatchSlots s.cfg.vsFwdOvf s.cfg.slots s.slots }

/-- The transition of slot i alone (40 R218): what a dispatch does to that slot. -/
def transitionAt (s : State) (i : Nat) : State :=
  match s.cfg.slots[i]? with
  | some c => s.setSlot i (transition s.cfg.vsFwdOvf c (s.slotRec i))
  | none => s

/-- A TICK event (40 R202): dispatched at once, latched, or discarded and counted. -/
def tickEvent (s : State) : State :=
  if s.tie then dispatch s
  else if s.tpend then { s with lostTicks := s.lostTicks + 1 }
  else { s with tpend := true }

/-- A host write of CTRL (40 R206): TIE from bit 0, every other bit ignored; a latched tick is
dispatched in the same step when ticks are enabled. -/
def ctrlWrite (v : Word) (s : State) : State :=
  if v.getLsbD 0 && s.tpend then dispatch { s with tie := true, tpend := false }
  else { s with tie := v.getLsbD 0 }

end Sys2Proof.Machine
end

