-- ==== Sys2Proof/Machine/Bus.lean ====
section
/-! DEFINITION. The host's accesses (20_memory.md): the address map, the checks of an access in the
order of 60 R807, what a read returns and what a write does. -/

namespace Sys2Proof.Machine

/-- The registers of the block (20 R101, R103). -/
inductive Reg where
  | ctrl
  | cmd
  | arg (k : Fin 4)
  | info
  | stat (i : Nat)
  | cnt (i : Nat)
  | setting (k : Fin 4) (i : Nat)
  | rem (i : Nat)
  deriving DecidableEq, Repr

/-- The block-level registers (20 R101). -/
def blockReg (a : Nat) : Option Reg :=
  if a = 0x00 then some .ctrl
  else if a = 0x04 then some .cmd
  else if a = 0x08 then some (.arg 0)
  else if a = 0x0C then some (.arg 1)
  else if a = 0x10 then some (.arg 2)
  else if a = 0x14 then some (.arg 3)
  else if a = 0x18 then some .info
  else none

/-- The registers of slot i's window, by offset from its base (20 R103). -/
def windowReg (i d : Nat) : Option Reg :=
  if d = 0x00 then some (.stat i)
  else if d = 0x04 then some (.cnt i)
  else if d = 0x08 then some (.setting 0 i)
  else if d = 0x0C then some (.setting 1 i)
  else if d = 0x10 then some (.setting 2 i)
  else if d = 0x14 then some (.setting 3 i)
  else if d = 0x18 then some (.rem i)
  else none

/-- The address map (20 R101, R102): the register at an offset, none where it is unmapped. -/
def regAt (cfg : Config) (off : Offset) : Option Reg :=
  if off.toNat < 0x100 then blockReg off.toNat
  else if off.toNat < 0x2100 ∧ (off.toNat - 0x100) / 0x20 < cfg.nSlots then
    windowReg ((off.toNat - 0x100) / 0x20) ((off.toNat - 0x100) % 0x20)
  else none

/-- The first two checks of an access: size and alignment, then the map (60 R807). -/
def resolve (cfg : Config) (off : Offset) (size : Nat) : Except Refusal Reg :=
  if size ≠ 4 ∨ off.toNat % 4 ≠ 0 then .error .busAccess
  else
    match regAt cfg off with
    | some g => .ok g
    | none => .error .busUnmapped

/-- CTRL as the host reads it (10 R44). -/
def ctrlWord (s : State) : Word := 0#30 ++ BitVec.ofBool s.tpend ++ BitVec.ofBool s.tie

/-- INFO: `INFO[8:0] = N_SLOTS`, `INFO[31:9] = 0` (10 R43). -/
def infoWord (cfg : Config) : Word := (BitVec.ofNat 9 cfg.nSlots).setWidth 32

/-- The value a register reads as, none for CMD, which is write-only (20 R105, R107). -/
def readReg (s : State) : Reg → Option Word
  | .ctrl => some (ctrlWord s)
  | .cmd => none
  | .arg k => some (s.arg k)
  | .info => some (infoWord s.cfg)
  | .stat i => some (statWord (s.cfg.slots.getD i default).vt (s.slotRec i))
  | .cnt i => some (cntWord (s.slotRec i))
  | .setting k i => some (settingWord (s.cfg.slots.getD i default) (s.slotRec i) k)
  | .rem i => some (remWord (s.cfg.slots.getD i default) (s.slotRec i))

/-- Byte j of a register as a bus that numbers bytes sees it: bits 8j+7 to 8j (20 R108). No admitted
access sees it. -/
def regByte (v : Word) (j : Fin 4) : BitVec 8 := v.extractLsb' (8 * j.val) 8

/-- `ARG[k] <- v` (20 R104). -/
def State.setArg (s : State) (k : Fin 4) (v : Word) : State :=
  match k with
  | 0 => { s with arg0 := v }
  | 1 => { s with arg1 := v }
  | 2 => { s with arg2 := v }
  | 3 => { s with arg3 := v }

/-- A host write of STAT of slot i (40 R214). -/
def statWrite (i : Nat) (v : Word) (s : State) : State :=
  s.setSlot i (clearFlags (s.cfg.slots.getD i default).vt v (s.slotRec i))

/-- A host write of the word w to CMD (40 R211). -/
def cmdWrite (w : Word) (s : State) : Result :=
  match decode w with
  | .ok i => exec i s
  | .error e => .next (s.refuse (decodeRefusal e) cmdOffset (some w))

/-- A host read (20 R105, R107). -/
def hostRead (off : Offset) (size : Nat) (s : State) : Result :=
  match resolve s.cfg off size with
  | .error e => .next (s.refuse e off none)
  | .ok g =>
    match readReg s g with
    | some v => .next { s with rdata := some v }
    | none => .next (s.refuse .busAccess off none)

/-- A host write (20 R106, R107). -/
def hostWrite (off : Offset) (size : Nat) (v : Word) (s : State) : Result :=
  match resolve s.cfg off size with
  | .error e => .next (s.refuse e off (some v))
  | .ok .ctrl => .next (ctrlWrite v s)
  | .ok .cmd => cmdWrite v s
  | .ok (.arg k) => .next (s.setArg k v)
  | .ok (.stat i) => .next (statWrite i v s)
  | .ok .info | .ok (.cnt _) | .ok (.setting _ _) | .ok (.rem _) =>
    .next (s.refuse .busAccess off (some v))

/-- One event (40 R201): a TICK or a host access. -/
def handleEvent (e : Event) (s : State) : Result :=
  match e with
  | .tick => .next (tickEvent s)
  | .read off size => hostRead off size s
  | .write off size v => hostWrite off size v s

/-- The state in which the next event is handled: that event taken off `inputs` and the word of an
earlier read gone from the bus (assumption log entries 3 and 4). -/
def State.takeEvent (s : State) (rest : List Event) : State :=
  { s with inputs := rest, rdata := none }

/-- The parameters under which slot `i.slot` exists and is of the instruction's variant, other slots
and other parameters as they are (assumption log entry 11). A slot added here has CW = 8. -/
def fitConfig (i : Instr) (cfg : Config) : Config :=
  let n := i.slot.toNat
  let cs := cfg.slots ++ List.replicate (n + 1 - cfg.nSlots) { vt := .sp, cw := 8 }
  { cfg with slots := cs.modify n fun c => { c with vt := i.variant } }

/-- The state with parameters `fitConfig`, and a record for every slot up to the instruction's. -/
def State.fitFor (s : State) (i : Instr) : State :=
  { s with
    cfg := fitConfig i s.cfg
    slots := s.slots ++ List.replicate (i.slot.toNat + 1 - s.slots.length) {} }

/-- The command word w as the next event, on a block built so that its slot is of the word's variant
(assumption log entry 11). -/
def State.placeCommand (s : State) (w : Word) : State :=
  let s := { s with inputs := .write cmdOffset 4 w :: s.inputs }
  match decode w with
  | .ok i => s.fitFor i
  | .error _ => s

end Sys2Proof.Machine
end

