-- ==== Sys2Proof/Machine/Step.lean ====
section
/-! DEFINITION. One step: the next event, handled as one atomic step (40 R201). The block fetches
nothing (10 R40, 20 R118); a command comes in as a host write of CMD. -/

namespace Sys2Proof.Machine

/-- One step of the block. With no event the block does nothing: it has no step of its own
(40 R200). -/
def step (s : State) : Host.Outcome State Fault Refusal :=
  match s.inputs with
  | [] => .next s
  | e :: rest => handleEvent e (s.takeEvent rest)

/-- The state whose very next step is the host's write of the command word given by the low `nbits`
bits of `w` (assumption log entries 10 and 11). -/
def State.withFetchWord (s : State) (nbits w : Nat) : State := s.placeCommand (fetchWord nbits w)

end Sys2Proof.Machine
end

