-- ==== Sys2Proof/Machine/Assembler.lean ====
section
/-! DEFINITION. The host's assembler lines (30 R150) and pseudo-instructions (30 R151) as the events
they stand for. A pseudo-instruction is a sequence of steps, so a TICK may fall inside it. -/

namespace Sys2Proof.Machine

/-- The offset of CTRL (20 R101). -/
def ctrlOffset : Offset := 0x0000#16

/-- The offset of ARG k (20 R101). -/
def argOffset (k : Fin 4) : Offset := BitVec.ofNat 16 (0x0008 + 4 * k.val)

/-- `B(i)`, which is the offset of STAT of slot i (20 R102, R103). -/
def statOffset (i : Nat) : Offset := BitVec.ofNat 16 (0x0100 + 0x20 * i)

/-- `WR <reg>, <value>` (30 R150). -/
def wrLine (off : Offset) (v : Word) : List Event := [.write off 4 v]

/-- `RD <reg>` (30 R150). -/
def rdLine (off : Offset) : List Event := [.read off 4]

/-- `TICK <n>` (30 R150). -/
def tickLine (n : Nat) : List Event := List.replicate n .tick

/-- `<VT>.<OP>[I] <slot>` (30 R150): the write of the command's word to CMD. -/
def cmdLine (i : Instr) : List Event := wrLine cmdOffset (encode i)

/-- The write of ARG k, absent for an argument written `_` (30 R151). -/
def argLine (k : Fin 4) : Option Word → List Event
  | some v => wrLine (argOffset k) v
  | none => []

/-- A command with its arguments: the writes of ARG0 to ARG3 in order, then the command (30 R151). -/
def pseudoLine (i : Instr) (a0 a1 a2 a3 : Option Word := none) : List Event :=
  argLine 0 a0 ++ argLine 1 a1 ++ argLine 2 a2 ++ argLine 3 a3 ++ cmdLine i

/-- `CS.ENTER`: read CTRL (the host keeps bit 0), then write 0 (30 R151). -/
def csEnter : List Event := rdLine ctrlOffset ++ wrLine ctrlOffset 0#32

/-- `CS.EXIT` with the value the host kept (30 R151). -/
def csExit (saved : Bool) : List Event :=
  wrLine ctrlOffset ((BitVec.ofBool saved).setWidth 32)

/-- `CLRF s, m` (30 R151). -/
def clrfLine (i : Nat) (m : Word) : List Event := wrLine (statOffset i) m

end Sys2Proof.Machine
end

