-- ==== Sys2Proof/WellFormed.lean ====
section
/-! DEFINITION. Well-formedness: the legal values of the parameters (00 R11) and of a command under
them (30 R147, items 3 and 4). -/

namespace Sys2Proof

/-- The legal values of one slot's parameters (00 R11): a width of 1 to 32 bits, and K and FR_INIT
in `0 .. 2^CW - 1`. -/
abbrev SlotCfg.wellFormed (c : SlotCfg) : Prop :=
  1 ≤ c.cw ∧ c.cw ≤ 32 ∧ c.k < 2 ^ c.cw ∧ c.frInit < 2 ^ c.cw

/-- The legal values of the block's parameters (00 R11): 1 to 256 slots, each legal, and a positive
tick period. -/
abbrev Config.wellFormed (cfg : Config) : Prop :=
  1 ≤ cfg.nSlots ∧ cfg.nSlots ≤ 256 ∧ (∀ c ∈ cfg.slots, c.wellFormed) ∧ 0 < cfg.tTick

/-- A command is well formed under `cfg` when its slot exists and is of the command's variant
(30 R147, items 3 and 4). -/
abbrev Instr.wellFormed (cfg : Config) (i : Instr) : Prop :=
  i.slot.toNat < cfg.nSlots ∧ cfg.slots[i.slot.toNat]?.map SlotCfg.vt = some i.variant

end Sys2Proof
end

