-- ==== Sys2Proof/Safety.lean ====
section
/-! DEFINITION. What counts as a good run (40 R222), the invariants of the block (10 R45, R64) and
the words statements about a command are made of. -/

namespace Sys2Proof.Machine

/-- No fault and no refusal recorded: a run that records one "is never a good end" (40 R222). -/
abbrev State.good (s : State) : Prop := s.faults = [] ∧ s.refused = false

/-- 10 R64 item 1: a suspended AC or AS slot is not active. -/
abbrev SuspendedIsInactive (c : SlotCfg) (r : Slot) : Prop :=
  c.vt = .ac ∨ c.vt = .as → r.susp = true → r.active = false

/-- 10 R64 item 2: the output bit of a BGO slot is its phase. -/
abbrev OutIsPhase (c : SlotCfg) (r : Slot) : Prop := c.vt = .bgo → r.out = r.phase

/-- 10 R64 item 3: an armed forward FB or VS slot is below its setting, or both are 0. -/
abbrev ForwardBelowSetting (c : SlotCfg) (r : Slot) : Prop :=
  c.vt = .fb ∨ c.vt = .vs → r.active = true → r.dir = fwd →
    r.cnt < r.s0 ∨ (r.cnt = 0 ∧ r.s0 = 0)

/-- 10 R64 item 4: counter, settings and `rem` lie in `0 .. M-1`. -/
abbrev InRange (c : SlotCfg) (r : Slot) : Prop :=
  r.cnt < 2 ^ c.cw ∧ r.s0 < 2 ^ c.cw ∧ r.s1 < 2 ^ c.cw ∧ r.s2 < 2 ^ c.cw ∧ r.s3 < 2 ^ c.cw ∧
    r.rem < 2 ^ c.cw

/-- What holds of a slot's record at every step boundary (10 R64): the ranges always, items 1 to 3
where no fault is recorded. -/
abbrev SlotInv (faultFree : Prop) (c : SlotCfg) (r : Slot) : Prop :=
  InRange c r ∧
    (faultFree → SuspendedIsInactive c r ∧ OutIsPhase c r ∧ ForwardBelowSetting c r)

/-- The invariant of the block: legal parameters (00 R11), one record per slot (10 R48), a pending
tick only under exclusion (10 R45), and 10 R64 for every slot. -/
structure State.Inv (s : State) : Prop where
  cfg_wellFormed : s.cfg.wellFormed
  slots_length : s.slots.length = s.cfg.nSlots
  pending_excluded : s.tpend = true → s.tie = false
  slot_inv : ∀ (i : Nat) (c : SlotCfg) (r : Slot),
    s.cfg.slots[i]? = some c → s.slots[i]? = some r → SlotInv (s.faults = []) c r

/-- Slot `slot` exists, is of variant `v`, has the parameters `c` and the record `r`. -/
structure SlotIs (s : State) (slot : SlotIdx) (v : Variant) (c : SlotCfg) (r : Slot) : Prop where
  cfg_eq : s.cfg.slots[slot.toNat]? = some c
  variant_eq : c.vt = v
  record_eq : s.slots[slot.toNat]? = some r

/-- The state with `r` as the record of slot `slot`, and everything else as it is. -/
def State.withRecord (s : State) (slot : SlotIdx) (r : Slot) : State :=
  { s with slots := s.slots.set slot.toNat r }

/-- Both forms of a command take `s` to `t`: the self-excluding one whatever TIE holds (40 R212), the
already-excluded one while TIE = 0 (40 R213). -/
def BothForms (plain excluded : Instr) (s t : State) : Prop :=
  exec plain s = .next t ∧ (s.tie = false → exec excluded s = .next t)

/-- `s` after a refused access (60 R802): the record `refused` is set, the reason, offset and written
value are recorded, and everything else is as it is. -/
def State.afterRefusal (s : State) (reason : Refusal) (off : Offset) (v : Option Word) : State :=
  { s with
    refused := true, refusals := s.refusals ++ [{ reason := reason, offset := off, value := v }] }

/-- `s` with its first event taken off and no word on the read bus: what a step handles the event in
(assumption log entries 3 and 4). -/
def State.afterEvent (s : State) (rest : List Event) : State :=
  { s with inputs := rest, rdata := none }

end Sys2Proof.Machine
end

