-- ==== Sys2Proof/Certificates/Slice0/Obligations.lean ====
section
/-! DEFINITION. The statements for the provers: one definition per obligation. No statement has a
case that is true because the block stops: it never does. A next state written as an equation says
that every field not named is as before, so it holds the frame too. Where a statement speaks of
`State.afterEvent` or of `rdata`, the list of events and the word on the bus are the model's own
(assumption log entries 3 and 4); the rules cited are claimed for the rest. -/

open Sys2Proof Sys2Proof.Machine

/-- For every constructor of Instr and every value of its SLOT field, the decoder reads the encoder's
word back as that instruction, so no bit of an encoding is dropped. (30_encoding.md R148,
30_encoding.md R149) -/
def Obligations.DecodeOfEncodeIsTheInstruction : Prop :=
  ∀ i : Instr, decode (encode i) = .ok i

/-- Each command has exactly one word: whenever the decoder accepts a word as i, the encoder writes
that same word for i. (30_encoding.md R148, 30_encoding.md R149) -/
def Obligations.EncodeOfDecodeIsTheWord : Prop :=
  ∀ (w : Word) (i : Instr), decode w = .ok i → encode i = w

/-- A word with a reserved bit set is refused as CMD_RESERVED; else a word that is no command's word
is refused as CMD_UNDEFINED_OP; else it decodes to the command whose word it is. These are the
checks on the word alone; the two that need the parameters are in another statement.
(30_encoding.md R147 items 1 and 2, 30_encoding.md R148) -/
def Obligations.EveryWordIsACommandOrNamedRefusal : Prop :=
  ∀ w : Word,
    (w.extractLsb' 17 15 ≠ 0#15 ∧ decode w = .error .cmdReserved) ∨
    (w.extractLsb' 17 15 = 0#15 ∧ (∀ i, encode i ≠ w) ∧ decode w = .error .cmdUndefinedOp) ∨
    (w.extractLsb' 17 15 = 0#15 ∧ ∃ i, encode i = w ∧ decode w = .ok i)

/-- One word of each variant, taken letter for letter from the spec's examples, decodes to the
instruction it stands for. (30_encoding.md R149 (examples), 41 to 45 (encoding words of the SET
and RESET commands)) -/
def Obligations.SpecExampleWordsDecode : Prop :=
  decode 0x00000310#32 = .ok (.spSet 3) ∧ decode 0x00010310#32 = .ok (.spSetI 3) ∧
    decode 0x000012A0#32 = .ok (.bgoSet 0x12) ∧ decode 0x00010075#32 = .ok (.acChgsetI 0) ∧
    decode 0x00000130#32 = .ok (.vsSet 1) ∧ decode 0x00000250#32 = .ok (.cpSet 2) ∧
    decode 0x00000562#32 = .ok (.frReset 5) ∧ decode 0x00000080#32 = .ok (.asSet 0) ∧
    decode 0x00000426#32 = .ok (.fbRevive 4) ∧ decode 0x00010140#32 = .ok (.ctSetI 1) ∧
    decode 0x00000090#32 = .ok (.bgSet 0)

/-- When the next event is a 4-byte host write of w to CMD (offset 0x0004) and w decodes to i, the
step is exec of i in the state with that event taken off and no word on the read bus. The block
has no program counter: nothing else happens around exec. That a command runs in one step is the
cited rules; that the event is taken off a list and the read bus then holds no word is the model's
choice (assumption log entries 3 and 4, DESIGN CHOICE). (40_tick_and_commands.md R211,
40_tick_and_commands.md R201) -/
def Obligations.StepRunsTheDecodedCommand : Prop :=
  ∀ (s : State) (rest : List Event) (w : Word) (i : Instr),
    s.inputs = .write 0x0004#16 4 w :: rest → decode w = .ok i →
      step s = exec i (s.afterEvent rest)

/-- The spec: "The block never stops". Refusals and faults are records, so no step and no command ends
in the model's fault or refusal outcome. That the model goes on after a refusal is its reading of
R802 (assumption log entry 5). So is that it goes on after a fault with free values, as R803
allows (entry 7). (40_tick_and_commands.md R222, 60_exceptions.md R800, 60_exceptions.md R802,
60_exceptions.md R803) -/
def Obligations.TheBlockNeverStops : Prop :=
  (∀ s : State, ∃ t, step s = .next t) ∧ (∀ (i : Instr) (s : State), ∃ t, exec i s = .next t)

/-- The variant, width and reload constant of every slot, and every other parameter, are the same
after any step, command or dispatch, and reset leaves them as given. (R47) -/
def Obligations.ParametersNeverChange : Prop :=
  (∀ (s t : State), step s = .next t → t.cfg = s.cfg) ∧
    (∀ (i : Instr) (s t : State), exec i s = .next t → t.cfg = s.cfg) ∧
    (∀ s : State, (dispatch s).cfg = s.cfg) ∧ (∀ cfg : Config, (State.resetFor cfg).cfg = cfg)

/-- From every state that meets State.Inv, whatever the next event is, the next state meets it:
parameters legal; one record per slot; TPEND only under TIE = 0; counters, settings and rem in
0..M-1; and, where no fault is recorded, a suspended slot is inactive, a BGO slot's out is its
phase, and an armed forward FB or VS slot is below its setting (or both are 0). That after a fault
the ranges hold and the other slots stay, and that a refusal is a next state, is the model's
reading of R803 and R802 (assumption log entries 5 and 7, DEDUCED). (10_state.md R64, 10_state.md
R45, 00_scope.md R13) -/
def Obligations.EveryStepKeepsTheInvariant : Prop :=
  ∀ s t : State, s.Inv → step s = .next t → t.Inv

/-- For all legal parameters the reset state meets State.Inv, and so does State.reset. The parameters
of State.reset are the model's choice (assumption log entry 2). (10_state.md R64, 10_state.md R67) -/
def Obligations.InvariantHoldsAfterReset : Prop :=
  (∀ cfg : Config, cfg.wellFormed → (State.resetFor cfg).Inv) ∧ State.reset.Inv

/-- Every step keeps "TPEND implies TIE = 0"; TPEND is set only in a step that starts with TIE = 0;
and a step that sets TIE from 0 to 1 leaves TPEND clear. (R45) -/
def Obligations.PendingTickImpliesExclusion : Prop :=
  ∀ s t : State, step s = .next t →
    ((s.tpend = true → s.tie = false) → t.tpend = true → t.tie = false) ∧
    (s.tpend = false → t.tpend = true → s.tie = false) ∧
    (s.tie = false → t.tie = true → t.tpend = false)

/-- No step lowers lost_ticks, drops a recorded fault, unsets the mark refused, or drops refusal
information. R46 is cited for the first three records; the list of refusal information is the
model's reading of R802 (assumption log entry 6, DEDUCED). (10_state.md R46) -/
def Obligations.ModelRecordsAreNeverCleared : Prop :=
  ∀ s t : State, step s = .next t →
    s.lostTicks ≤ t.lostTicks ∧ s.faults <+: t.faults ∧ (s.refused = true → t.refused = true) ∧
    s.refusals <+: t.refusals

/-- With TIE = 1 the step is a dispatch; with TIE = 0 and TPEND = 0 it only sets TPEND; with TIE = 0
and TPEND = 1 it only counts a lost tick. That the event is taken off a list and the read bus then
holds no word is the model's choice (assumption log entries 3 and 4, DESIGN CHOICE).
(40_tick_and_commands.md R202) -/
def Obligations.TickDispatchesLatchesOrIsLost : Prop :=
  ∀ (s : State) (rest : List Event), s.inputs = .tick :: rest →
    (s.tie = true → step s = .next (dispatch (s.afterEvent rest))) ∧
    (s.tie = false → s.tpend = false →
      step s = .next { s.afterEvent rest with tpend := true }) ∧
    (s.tie = false → s.tpend = true →
      step s = .next { s.afterEvent rest with lostTicks := s.lostTicks + 1 })

/-- Dispatch() changes only the slots' records, keeps their number, and gives slot i the record its
variant's transition gives from the record before. What each transition does is stated with the
STEP commands. (R203) -/
def Obligations.DispatchRunsEveryTransitionOnce : Prop :=
  ∀ s : State,
    dispatch s = { s with slots := (dispatch s).slots } ∧
    (dispatch s).slots.length = s.slots.length ∧
    ∀ (i : Nat) (c : SlotCfg) (r : Slot), s.cfg.slots[i]? = some c → s.slots[i]? = some r →
      (dispatch s).slots[i]? = some
        (match c.vt with
        | .sp => tSp c r
        | .fb => tFb c r
        | .vs => tVs s.cfg.vsFwdOvf c r
        | .ct => tCt c r
        | .cp => tCp c r
        | .fr => tFr c r
        | .ac => tAc c r
        | .as => tAs c r
        | .bg => tBg c r
        | .bgo => tBgo c r)

/-- For every order of the slot numbers 0 .. N_SLOTS-1, running the transition of one slot after
another in that order (each in the state the one before left) ends in the same state as
Dispatch(). (R207) -/
def Obligations.DispatchOrderIsNotObservable : Prop :=
  ∀ (s : State) (order : List Nat), order.Perm (List.range s.cfg.nSlots) →
    order.foldl transitionAt s = dispatch s

/-- TIE takes bit 0 of the written word and every other bit is ignored; where that enables ticks while
one is held, TPEND is cleared and the dispatch runs in the same step. That the event is taken off
a list and the read bus then holds no word is the model's choice (assumption log entries 3 and 4,
DESIGN CHOICE). (40_tick_and_commands.md R206) -/
def Obligations.CtrlWriteSetsTieAndDispatchesAHeldTick : Prop :=
  ∀ (s : State) (rest : List Event) (v : Word), s.inputs = .write 0x0000#16 4 v :: rest →
    (v.getLsbD 0 = true → s.tpend = true →
      step s = .next (dispatch { s.afterEvent rest with tie := true, tpend := false })) ∧
    (v.getLsbD 0 = true → s.tpend = false →
      step s = .next { s.afterEvent rest with tie := true }) ∧
    (v.getLsbD 0 = false → step s = .next { s.afterEvent rest with tie := false })

/-- Whatever CTRL holds, a write of v to STAT of slot i clears expired where v[1] = 1 and the variant
has that flag, clears tickf where v[2] = 1 and the variant has that flag, and changes nothing
else. That the event is taken off a list and the read bus then holds no word is the model's choice
(assumption log entries 3 and 4, DESIGN CHOICE). (40_tick_and_commands.md R214) -/
def Obligations.StatWriteClearsOnlyTheFlagsWritten : Prop :=
  ∀ (s : State) (rest : List Event) (slot : SlotIdx) (c : SlotCfg) (r : Slot) (v : Word),
    SlotIs s slot c.vt c r →
    s.inputs = .write (BitVec.ofNat 16 (0x0100 + 0x20 * slot.toNat)) 4 v :: rest →
      step s = .next ((s.afterEvent rest).withRecord slot
        { r with
          expired :=
            if v.getLsbD 1 = true ∧ (c.vt = .sp ∨ c.vt = .fb ∨ c.vt = .vs ∨ c.vt = .as) then false
            else r.expired
          tickf :=
            if v.getLsbD 2 = true ∧ (c.vt = .ct ∨ c.vt = .cp ∨ c.vt = .fr ∨ c.vt = .ac ∨
              c.vt = .bg ∨ c.vt = .bgo) then false
            else r.tickf })

/-- For each of ARG0 to ARG3, at its own offset: a 4-byte write sets that register alone, and a 4-byte
read returns it and changes nothing. The list of events, and the field that holds the word a read
returns, are the model's choice (assumption log entries 3 and 4, DESIGN CHOICE). (20_memory.md
R104, 20_memory.md R101) -/
def Obligations.ArgRegistersAreWrittenAndReadBack : Prop :=
  ∀ (s : State) (rest : List Event) (v : Word),
    (s.inputs = .write 0x0008#16 4 v :: rest → step s = .next { s.afterEvent rest with arg0 := v }) ∧
    (s.inputs = .write 0x000C#16 4 v :: rest → step s = .next { s.afterEvent rest with arg1 := v }) ∧
    (s.inputs = .write 0x0010#16 4 v :: rest → step s = .next { s.afterEvent rest with arg2 := v }) ∧
    (s.inputs = .write 0x0014#16 4 v :: rest → step s = .next { s.afterEvent rest with arg3 := v }) ∧
    (s.inputs = .read 0x0008#16 4 :: rest →
      step s = .next { s.afterEvent rest with rdata := some s.arg0 }) ∧
    (s.inputs = .read 0x000C#16 4 :: rest →
      step s = .next { s.afterEvent rest with rdata := some s.arg1 }) ∧
    (s.inputs = .read 0x0010#16 4 :: rest →
      step s = .next { s.afterEvent rest with rdata := some s.arg2 }) ∧
    (s.inputs = .read 0x0014#16 4 :: rest →
      step s = .next { s.afterEvent rest with rdata := some s.arg3 })

/-- A read either returns a word and leaves every register, slot and record as it was (and the same
read right after it returns the same word), or is refused and recorded. R105 and R111 are cited
for the read that returns a word, R107 and R802 for the refused one. That a refusal is a next
state with an entry appended to a list is the model's reading (assumption log entries 5 and 6,
DEDUCED); the list of events and the word on the bus are its choice (entries 3 and 4, DESIGN
CHOICE). (20_memory.md R105, 20_memory.md R111, 20_memory.md R107, 60_exceptions.md R802) -/
def Obligations.ReadsHaveNoSideEffect : Prop :=
  ∀ (s t : State) (off : Offset) (size : Nat) (rest : List Event),
    s.inputs = .read off size :: rest → step s = .next t →
      (∃ v, t = { s.afterEvent rest with rdata := some v } ∧
        ∀ (t' : State) (more : List Event), rest = .read off size :: more → step t = .next t' →
          t' = { s.afterEvent more with rdata := some v }) ∨
      (∃ reason, t = (s.afterEvent rest).afterRefusal reason off none)

/-- CTRL reads TIE in bit 0, TPEND in bit 1 and 0 in bits 31:2; INFO reads N_SLOTS in bits 8:0 and 0
above. The list of events and the word on the bus are the model's choice (assumption log entries 3
and 4, DESIGN CHOICE). (10_state.md R43, 10_state.md R44) -/
def Obligations.CtrlAndInfoReads : Prop :=
  ∀ (s : State) (rest : List Event),
    (s.inputs = .read 0x0000#16 4 :: rest →
      step s = .next { s.afterEvent rest with
        rdata := some (BitVec.ofNat 32 (s.tie.toNat + 2 * s.tpend.toNat)) }) ∧
    (s.cfg.nSlots ≤ 256 → s.inputs = .read 0x0018#16 4 :: rest →
      step s = .next { s.afterEvent rest with rdata := some (BitVec.ofNat 32 s.cfg.nSlots) })

/-- For every variant: bits 0 to 7 are ACTIVE (1 for FR), EXPIRED, TICKF, DIR, STATE, PHASE, SUSP and
OUT, each 0 where the variant lacks the field; bits 11:8 and 31:16 are 0; bits 15:12 are the
variant code. The read changes nothing else. The list of events and the word on the bus are the
model's choice (assumption log entries 3 and 4, DESIGN CHOICE). (10_state.md R65 (values read),
10_state.md R48, 10_state.md R49) -/
def Obligations.StatReadLayout : Prop :=
  ∀ (s : State) (rest : List Event) (slot : SlotIdx) (c : SlotCfg) (r : Slot),
    SlotIs s slot c.vt c r →
    s.inputs = .read (BitVec.ofNat 16 (0x0100 + 0x20 * slot.toNat)) 4 :: rest →
    ∃ w : Word, step s = .next { s.afterEvent rest with rdata := some w } ∧
      (w.getLsbD 0 = true ↔ c.vt = .fr ∨ r.active = true) ∧
      (w.getLsbD 1 = true ↔
        (c.vt = .sp ∨ c.vt = .fb ∨ c.vt = .vs ∨ c.vt = .as) ∧ r.expired = true) ∧
      (w.getLsbD 2 = true ↔
        (c.vt = .ct ∨ c.vt = .cp ∨ c.vt = .fr ∨ c.vt = .ac ∨ c.vt = .bg ∨ c.vt = .bgo) ∧
          r.tickf = true) ∧
      (w.getLsbD 3 = true ↔ (c.vt = .fb ∨ c.vt = .vs) ∧ r.dir = true) ∧
      (w.getLsbD 4 = true ↔ (c.vt = .ac ∨ c.vt = .as) ∧ r.state = true) ∧
      (w.getLsbD 5 = true ↔ (c.vt = .as ∨ c.vt = .bg ∨ c.vt = .bgo) ∧ r.phase = true) ∧
      (w.getLsbD 6 = true ↔ (c.vt = .ac ∨ c.vt = .as) ∧ r.susp = true) ∧
      (w.getLsbD 7 = true ↔ c.vt = .bgo ∧ r.out = true) ∧
      w.extractLsb' 8 4 = 0#4 ∧ w.extractLsb' 12 4 = variantCode c.vt ∧ w.extractLsb' 16 16 = 0#16

/-- At window offsets 0x04, 0x08, 0x0C, 0x10, 0x14 and 0x18 the host reads cnt, s0 (K for CP and FR),
s1, s2, s3 and rem as 32-bit words, 0 where the variant lacks the field, and a write there is
refused as BUS_ACCESS and recorded. R66 is cited for the reads, R107, R802 and R807 for the
refused write. That a refusal is a next state with an entry appended to a list is the model's
reading (assumption log entries 5 and 6, DEDUCED); the list of events and the word on the bus are
its choice (entries 3 and 4, DESIGN CHOICE). (10_state.md R66, 20_memory.md R107, 60_exceptions.md
R802, 60_exceptions.md R807) -/
def Obligations.CounterSettingAndRemRegisters : Prop :=
  ∀ (s : State) (rest : List Event) (slot : SlotIdx) (c : SlotCfg) (r : Slot) (v : Word) (d : Nat),
    SlotIs s slot c.vt c r →
    (d = 0x04 → v = BitVec.ofNat 32 r.cnt) →
    (d = 0x08 → v = if c.vt = .cp ∨ c.vt = .fr then BitVec.ofNat 32 c.k
      else if c.vt = .sp then 0#32 else BitVec.ofNat 32 r.s0) →
    (d = 0x0C → v = if c.vt = .vs ∨ c.vt = .ac ∨ c.vt = .as ∨ c.vt = .bg ∨ c.vt = .bgo then
      BitVec.ofNat 32 r.s1 else 0#32) →
    (d = 0x10 → v = if c.vt = .vs ∨ c.vt = .bg ∨ c.vt = .bgo then BitVec.ofNat 32 r.s2 else 0#32) →
    (d = 0x14 → v = if c.vt = .bg ∨ c.vt = .bgo then BitVec.ofNat 32 r.s3 else 0#32) →
    (d = 0x18 → v = if c.vt = .bg ∨ c.vt = .bgo then BitVec.ofNat 32 r.rem else 0#32) →
    d = 0x04 ∨ d = 0x08 ∨ d = 0x0C ∨ d = 0x10 ∨ d = 0x14 ∨ d = 0x18 →
    (s.inputs = .read (BitVec.ofNat 16 (0x0100 + 0x20 * slot.toNat + d)) 4 :: rest →
      step s = .next { s.afterEvent rest with rdata := some v }) ∧
    (∀ u, s.inputs = .write (BitVec.ofNat 16 (0x0100 + 0x20 * slot.toNat + d)) 4 u :: rest →
      step s = .next ((s.afterEvent rest).afterRefusal .busAccess
        (BitVec.ofNat 16 (0x0100 + 0x20 * slot.toNat + d)) (some u)))

/-- A read or write whose size is not 4 or whose offset is not a multiple of 4 is refused as
BUS_ACCESS, even where the offset is unmapped; an aligned 4-byte access to an unmapped offset is
refused as BUS_UNMAPPED; a read of CMD and a write of INFO are refused as BUS_ACCESS. The
read-only registers of the slot windows are in CounterSettingAndRemRegisters. A refusal sets the
mark, records reason, offset and value, and changes nothing else of the block. That it is a next
state with an entry appended to a list is the model's reading (assumption log entries 5 and 6,
DEDUCED); the list of events and the cleared read word are its choice (entries 3 and 4, DESIGN
CHOICE). (20_memory.md R107, 20_memory.md R101, 20_memory.md R102, 60_exceptions.md R802,
60_exceptions.md R807) -/
def Obligations.BadAccessesAreRefusedInOrder : Prop :=
  ∀ (s : State) (rest : List Event) (off : Offset) (size : Nat) (v : Word) (reason : Refusal),
    (if size ≠ 4 ∨ off.toNat % 4 ≠ 0 then reason = .busAccess
      else if (0x001C ≤ off.toNat ∧ off.toNat < 0x0100) ∨
          0x0100 + 0x20 * s.cfg.nSlots ≤ off.toNat ∨ 0x2100 ≤ off.toNat ∨
          (0x0100 ≤ off.toNat ∧ off.toNat % 0x20 = 0x1C) then reason = .busUnmapped
      else False) →
    (s.inputs = .read off size :: rest →
      step s = .next ((s.afterEvent rest).afterRefusal reason off none)) ∧
    (s.inputs = .write off size v :: rest →
      step s = .next ((s.afterEvent rest).afterRefusal reason off (some v))) ∧
    (∀ s' : State, s'.inputs = .read 0x0004#16 4 :: rest →
      step s' = .next ((s'.afterEvent rest).afterRefusal .busAccess 0x0004#16 none)) ∧
    (∀ s' : State, s'.inputs = .write 0x0018#16 4 v :: rest →
      step s' = .next ((s'.afterEvent rest).afterRefusal .busAccess 0x0018#16 (some v)))

/-- A write to CMD is refused as CMD_RESERVED where bits 31:17 are not 0, else as CMD_UNDEFINED_OP
where the word is no command's, else as CMD_SLOT_RANGE where SLOT is at least N_SLOTS, else as
CMD_VARIANT_MISMATCH where the slot is of another variant; nothing but the refusal record changes.
For every command in both forms and whatever TIE holds. That a refused command is a next state
with an entry appended to a list is the model's reading (assumption log entries 5 and 6, DEDUCED);
the list of events and the cleared read word are its choice (entries 3 and 4, DESIGN CHOICE).
(30_encoding.md R147, 60_exceptions.md R802, 60_exceptions.md R807) -/
def Obligations.CommandRefusalsInOrder : Prop :=
  ∀ (s : State) (rest : List Event) (w : Word), s.inputs = .write 0x0004#16 4 w :: rest →
    (w.extractLsb' 17 15 ≠ 0#15 →
      step s = .next ((s.afterEvent rest).afterRefusal .cmdReserved 0x0004#16 (some w))) ∧
    (w.extractLsb' 17 15 = 0#15 → (∀ i, encode i ≠ w) →
      step s = .next ((s.afterEvent rest).afterRefusal .cmdUndefinedOp 0x0004#16 (some w))) ∧
    (∀ i, encode i = w → s.cfg.nSlots ≤ i.slot.toNat →
      step s = .next ((s.afterEvent rest).afterRefusal .cmdSlotRange 0x0004#16 (some w))) ∧
    (∀ i c, encode i = w → s.cfg.slots[i.slot.toNat]? = some c → c.vt ≠ i.variant →
      step s = .next ((s.afterEvent rest).afterRefusal .cmdVariantMismatch 0x0004#16 (some w)))

/-- For every already-excluded command on a slot of its variant while TIE = 1: the fault with the
command word is appended, the command's slot has some record with every number in its range, and
every other slot, CTRL, the argument registers, lost_ticks, refused and the refusal information
are as before. The slot's record is made of free values, and nothing is said of it beyond the
range. R213 and R803 are cited for the recorded fault and the slot; that the rest of the block
stays is the model's reading (assumption log entry 7, DEDUCED, unsafe if hardware disturbs more),
and the free-value counter that goes up by one is its own (entry 8, DESIGN CHOICE).
(40_tick_and_commands.md R213, 60_exceptions.md R803) -/
def Obligations.ExcludedFormWithoutExclusionFaults : Prop :=
  ∀ (i : Instr) (s : State) (c : SlotCfg) (r : Slot),
    SlotIs s i.slot i.variant c r → i.excluded = true → s.tie = true → InRange c r →
      ∃ r' : Slot, InRange c r' ∧
        exec i s = .next
          { s.withRecord i.slot r' with
            faults := s.faults ++ [{ kind := .unexcluded, word := encode i }]
            freeCount := s.freeCount + 1 }

/-- For all parameters: TIE, TPEND and the argument registers are 0, the records are empty, there is
one record per slot, and every field of it is 0 except an FR slot's counter, which is FR_INIT.
That the list of refusal information is empty is the model's reading of R900 (assumption log entry
6). (70_reset_and_hazards.md R900, 10_state.md R67) -/
def Obligations.ResetState : Prop :=
  ∀ cfg : Config,
    let s := State.resetFor cfg
    s.cfg = cfg ∧ s.tie = false ∧ s.tpend = false ∧ s.arg0 = 0 ∧ s.arg1 = 0 ∧ s.arg2 = 0 ∧
    s.arg3 = 0 ∧ s.lostTicks = 0 ∧ s.faults = [] ∧ s.refused = false ∧ s.refusals = [] ∧
    s.slots.length = cfg.nSlots ∧
    ∀ (i : Nat) (c : SlotCfg) (r : Slot), cfg.slots[i]? = some c → s.slots[i]? = some r →
      r = { active := false, cnt := if c.vt = .fr then c.frInit else 0, s0 := 0, s1 := 0, s2 := 0,
            s3 := 0, dir := false, state := false, phase := false, rem := 0, susp := false,
            expired := false, tickf := false, out := false }

/-- Commands and dispatches leave ARG0 to ARG3 alone, and any step whose event is not a 4-byte host
write of ARGk leaves ARGk as it was. That a refused command and a command that records a fault
also leave them alone is the model's reading of R802 and R803 (assumption log entries 5 and 7,
DEDUCED); that events stand in a list is its choice (entry 3, DESIGN CHOICE). (10_state.md R41,
40_tick_and_commands.md R215) -/
def Obligations.ArgRegistersChangeOnlyByHostWrites : Prop :=
  (∀ (i : Instr) (s t : State), exec i s = .next t → ∀ k, t.arg k = s.arg k) ∧
    (∀ s : State, ∀ k, (dispatch s).arg k = s.arg k) ∧
    (∀ (s t : State) (e : Event) (rest : List Event) (k : Fin 4), s.inputs = e :: rest →
      (∀ v, e ≠ .write (BitVec.ofNat 16 (0x0008 + 4 * k.val)) 4 v) → step s = .next t →
        t.arg k = s.arg k)

/-- A command changes no slot but its own; its own slot's new record depends on no other slot; and a
slot's record after a dispatch depends on no other slot. R61 is cited for commands that are
carried out and for dispatches. That a refused command is a next state is the model's reading of
R802 (assumption log entry 5, DEDUCED). For an X = 1 command under TIE = 1, R803 gives the slot no
defined value: that every other slot stays, and that the slot's free values are the same in two
states of equal freeCount, is the model's (entries 7, DEDUCED, and 8, DESIGN CHOICE). (10_state.md
R61, 40_tick_and_commands.md R213, 60_exceptions.md R802, 60_exceptions.md R803) -/
def Obligations.SlotsAreIndependent : Prop :=
  (∀ (i : Instr) (s t : State) (j : Nat), exec i s = .next t → j ≠ i.slot.toNat →
      t.slots[j]? = s.slots[j]?) ∧
    (∀ (i : Instr) (s s' t t' : State), s.cfg = s'.cfg → s.tie = s'.tie →
      (∀ k, s.arg k = s'.arg k) → s.freeCount = s'.freeCount →
      s.slots[i.slot.toNat]? = s'.slots[i.slot.toNat]? →
      exec i s = .next t → exec i s' = .next t' →
        t.slots[i.slot.toNat]? = t'.slots[i.slot.toNat]?) ∧
    (∀ (s s' : State) (j : Nat), s.cfg = s'.cfg → s.slots[j]? = s'.slots[j]? →
      (dispatch s).slots[j]? = (dispatch s').slots[j]?)

/-- A flag that is set before a dispatch is set after it, for every slot of every variant: flags are
never cleared by the engine. (10_state.md R52, 10_state.md R53) -/
def Obligations.DispatchNeverClearsAFlag : Prop :=
  ∀ (s : State) (i : Nat) (r r' : Slot), s.slots[i]? = some r → (dispatch s).slots[i]? = some r' →
    (r.expired = true → r'.expired = true) ∧ (r.tickf = true → r'.tickf = true)

/-- For every command with one of these operations, in both forms (the already-excluded form under
exclusion), whether it is carried out or refused, the counter of every slot is the same before and
after. That a refused command is a next state is the model's reading of R802 (assumption log entry
5, DEDUCED). (10_state.md R51) -/
def Obligations.StopResetClearChangeReviveSuspendKeepTheCounter : Prop :=
  ∀ (i : Instr) (s t : State) (j : Nat) (r r' : Slot),
    (i.op = .stop ∨ (i.op = .reset ∧ i.variant ≠ .fr) ∨ i.op = .clear ∨ i.op = .chgset ∨
      i.op = .revive ∨ i.op = .suspend ∨ i.op = .resume) →
    (i.excluded = true → s.tie = false) →
    exec i s = .next t → s.slots[j]? = some r → t.slots[j]? = some r' → r'.cnt = r.cnt

/-- For every STEP command in both forms: the next state differs from s only in the slot's record (so
TPEND and every other slot are untouched), and that record is the one Dispatch() would give the
slot. (40_tick_and_commands.md R218) -/
def Obligations.StepCommandIsTheDispatchOfOneSlot : Prop :=
  ∀ (i : Instr) (s : State) (c : SlotCfg) (r : Slot), i.op = .step →
    SlotIs s i.slot i.variant c r → (i.excluded = true → s.tie = false) →
      ∃ r' : Slot, exec i s = .next (s.withRecord i.slot r') ∧
        (dispatch s).slots[i.slot.toNat]? = some r'

/-- For SP.STOP, SP.RESET, FB.STOP, FB.RESET, VS.STOP, VS.RESET and their I forms: the next state
differs only in the slot's record, whose active and expired are 0 and whose other fields are as
before. (41_single_pulse.md R302, R303, 42_forward_backward.md R402, R403, R422, R423) -/
def Obligations.OneShotStopAndResetDisarm : Prop :=
  ∀ (s : State) (slot : SlotIdx) (c : SlotCfg) (r : Slot),
    (SlotIs s slot .sp c r →
      BothForms (.spStop slot) (.spStopI slot) s (s.withRecord slot
        { r with active := false, expired := false }) ∧
      BothForms (.spReset slot) (.spResetI slot) s (s.withRecord slot
        { r with active := false, expired := false })) ∧
    (SlotIs s slot .fb c r →
      BothForms (.fbStop slot) (.fbStopI slot) s (s.withRecord slot
        { r with active := false, expired := false }) ∧
      BothForms (.fbReset slot) (.fbResetI slot) s (s.withRecord slot
        { r with active := false, expired := false })) ∧
    (SlotIs s slot .vs c r →
      BothForms (.vsStop slot) (.vsStopI slot) s (s.withRecord slot
        { r with active := false, expired := false }) ∧
      BothForms (.vsReset slot) (.vsResetI slot) s (s.withRecord slot
        { r with active := false, expired := false }))

/-- For CT, CP, BG and BGO STOP and RESET and their I forms: the next state differs only in the slot's
record, whose active and tickf are 0 and whose other fields, the BGO output among them, are as
before. (43_continuous.md R502, R503, R522, R523, 45_burst.md R702, R703, R722, R723) -/
def Obligations.RepeatingStopAndResetDisarm : Prop :=
  ∀ (s : State) (slot : SlotIdx) (c : SlotCfg) (r : Slot),
    (SlotIs s slot .ct c r →
      BothForms (.ctStop slot) (.ctStopI slot) s (s.withRecord slot
        { r with active := false, tickf := false }) ∧
      BothForms (.ctReset slot) (.ctResetI slot) s (s.withRecord slot
        { r with active := false, tickf := false })) ∧
    (SlotIs s slot .cp c r →
      BothForms (.cpStop slot) (.cpStopI slot) s (s.withRecord slot
        { r with active := false, tickf := false }) ∧
      BothForms (.cpReset slot) (.cpResetI slot) s (s.withRecord slot
        { r with active := false, tickf := false })) ∧
    (SlotIs s slot .bg c r →
      BothForms (.bgStop slot) (.bgStopI slot) s (s.withRecord slot
        { r with active := false, tickf := false }) ∧
      BothForms (.bgReset slot) (.bgResetI slot) s (s.withRecord slot
        { r with active := false, tickf := false })) ∧
    (SlotIs s slot .bgo c r →
      BothForms (.bgoStop slot) (.bgoStopI slot) s (s.withRecord slot
        { r with active := false, tickf := false }) ∧
      BothForms (.bgoReset slot) (.bgoResetI slot) s (s.withRecord slot
        { r with active := false, tickf := false }))

/-- For AC and AS STOP and RESET and their I forms: the next state differs only in the slot's record:
active and susp are 0, AC's tickf or AS's expired is 0, the rest is as before. (44_asymmetric.md
R602, R603, R622, R623) -/
def Obligations.AsymmetricStopAndResetDisarm : Prop :=
  ∀ (s : State) (slot : SlotIdx) (c : SlotCfg) (r : Slot),
    (SlotIs s slot .ac c r →
      BothForms (.acStop slot) (.acStopI slot) s (s.withRecord slot
        { r with active := false, tickf := false, susp := false }) ∧
      BothForms (.acReset slot) (.acResetI slot) s (s.withRecord slot
        { r with active := false, tickf := false, susp := false })) ∧
    (SlotIs s slot .as c r →
      BothForms (.asStop slot) (.asStopI slot) s (s.withRecord slot
        { r with active := false, expired := false, susp := false }) ∧
      BothForms (.asReset slot) (.asResetI slot) s (s.withRecord slot
        { r with active := false, expired := false, susp := false }))

/-- For SP, FB, VS and AS CLEAR and their I forms: only the slot's expired changes, to 0.
(41_single_pulse.md R304, 42_forward_backward.md R404, R424, 44_asymmetric.md R624) -/
def Obligations.ClearOfOneShotsClearsExpired : Prop :=
  ∀ (s : State) (slot : SlotIdx) (c : SlotCfg) (r : Slot),
    (SlotIs s slot .sp c r →
      BothForms (.spClear slot) (.spClearI slot) s (s.withRecord slot
        { r with expired := false })) ∧
    (SlotIs s slot .fb c r →
      BothForms (.fbClear slot) (.fbClearI slot) s (s.withRecord slot
        { r with expired := false })) ∧
    (SlotIs s slot .vs c r →
      BothForms (.vsClear slot) (.vsClearI slot) s (s.withRecord slot
        { r with expired := false })) ∧
    (SlotIs s slot .as c r →
      BothForms (.asClear slot) (.asClearI slot) s (s.withRecord slot
        { r with expired := false }))

/-- For CT, CP, FR, AC, BG and BGO CLEAR and their I forms: only the slot's tickf changes, to 0.
(43_continuous.md R504, R524, R542, 44_asymmetric.md R604, 45_burst.md R704, R724) -/
def Obligations.ClearOfRepeatersClearsTickf : Prop :=
  ∀ (s : State) (slot : SlotIdx) (c : SlotCfg) (r : Slot),
    (SlotIs s slot .ct c r →
      BothForms (.ctClear slot) (.ctClearI slot) s (s.withRecord slot
        { r with tickf := false })) ∧
    (SlotIs s slot .cp c r →
      BothForms (.cpClear slot) (.cpClearI slot) s (s.withRecord slot
        { r with tickf := false })) ∧
    (SlotIs s slot .fr c r →
      BothForms (.frClear slot) (.frClearI slot) s (s.withRecord slot
        { r with tickf := false })) ∧
    (SlotIs s slot .ac c r →
      BothForms (.acClear slot) (.acClearI slot) s (s.withRecord slot
        { r with tickf := false })) ∧
    (SlotIs s slot .bg c r →
      BothForms (.bgClear slot) (.bgClearI slot) s (s.withRecord slot
        { r with tickf := false })) ∧
    (SlotIs s slot .bgo c r →
      BothForms (.bgoClear slot) (.bgoClearI slot) s (s.withRecord slot
        { r with tickf := false }))

/-- For AC and AS SUSPEND and RESUME and their I forms: SUSPEND of an active slot sets active to 0 and
susp to 1; RESUME of a suspended slot sets active to 1 and susp to 0; otherwise nothing changes.
(44_asymmetric.md R610, R611, R630, R631) -/
def Obligations.SuspendAndResume : Prop :=
  ∀ (s : State) (slot : SlotIdx) (c : SlotCfg) (r : Slot),
    (SlotIs s slot .ac c r →
      BothForms (.acSuspend slot) (.acSuspendI slot) s (s.withRecord slot
        (if r.active = true then { r with active := false, susp := true } else r)) ∧
      BothForms (.acResume slot) (.acResumeI slot) s (s.withRecord slot
        (if r.susp = true then { r with active := true, susp := false } else r))) ∧
    (SlotIs s slot .as c r →
      BothForms (.asSuspend slot) (.asSuspendI slot) s (s.withRecord slot
        (if r.active = true then { r with active := false, susp := true } else r)) ∧
      BothForms (.asResume slot) (.asResumeI slot) s (s.withRecord slot
        (if r.susp = true then { r with active := true, susp := false } else r)))

/-- For FB and VS REVIVE and their I forms: active becomes 1 and dir becomes BWD (1); everything else
is as before. (42_forward_backward.md R407, R427) -/
def Obligations.ReviveRearmsBackward : Prop :=
  ∀ (s : State) (slot : SlotIdx) (c : SlotCfg) (r : Slot),
    (SlotIs s slot .fb c r →
      BothForms (.fbRevive slot) (.fbReviveI slot) s (s.withRecord slot
        { r with active := true, dir := true })) ∧
    (SlotIs s slot .vs c r →
      BothForms (.vsRevive slot) (.vsReviveI slot) s (s.withRecord slot
        { r with active := true, dir := true }))

/-- For FB and VS CHGSET and their I forms: s0 becomes ARG0 truncated to the slot's width; an active
forward slot whose counter is at least that setting becomes inactive and expired in the same step;
cnt, dir and everything else are as before. (42_forward_backward.md R406, R426) -/
def Obligations.ThresholdChangeReevaluates : Prop :=
  ∀ (s : State) (slot : SlotIdx) (c : SlotCfg) (r : Slot),
    (SlotIs s slot .fb c r →
      BothForms (.fbChgset slot) (.fbChgsetI slot) s (s.withRecord slot
        (if r.active = true ∧ r.dir = false ∧ s.arg0.toNat % 2 ^ c.cw ≤ r.cnt then
          { r with s0 := s.arg0.toNat % 2 ^ c.cw, active := false, expired := true }
         else { r with s0 := s.arg0.toNat % 2 ^ c.cw }))) ∧
    (SlotIs s slot .vs c r →
      BothForms (.vsChgset slot) (.vsChgsetI slot) s (s.withRecord slot
        (if r.active = true ∧ r.dir = false ∧ s.arg0.toNat % 2 ^ c.cw ≤ r.cnt then
          { r with s0 := s.arg0.toNat % 2 ^ c.cw, active := false, expired := true }
         else { r with s0 := s.arg0.toNat % 2 ^ c.cw })))

/-- CT.CHGSET writes s0, VS.CHGSTEPF s1 and VS.CHGSTEPB s2, each from ARG0 truncated; in both forms,
and nothing else changes. (43_continuous.md R506, 42_forward_backward.md R428, R429) -/
def Obligations.PeriodAndStepChangesWriteOneSetting : Prop :=
  ∀ (s : State) (slot : SlotIdx) (c : SlotCfg) (r : Slot),
    (SlotIs s slot .ct c r →
      BothForms (.ctChgset slot) (.ctChgsetI slot) s (s.withRecord slot
        { r with s0 := s.arg0.toNat % 2 ^ c.cw })) ∧
    (SlotIs s slot .vs c r →
      BothForms (.vsChgstepf slot) (.vsChgstepfI slot) s (s.withRecord slot
        { r with s1 := s.arg0.toNat % 2 ^ c.cw }) ∧
      BothForms (.vsChgstepb slot) (.vsChgstepbI slot) s (s.withRecord slot
        { r with s2 := s.arg0.toNat % 2 ^ c.cw }))

/-- AC.CHGSET and AC.CHGSETI write s0 and s1 from ARG0 and ARG1 truncated, and state from ARG3 bit 0
where ARG2 bit 0 is 1; cnt, active, tickf, susp and everything else are as before.
(44_asymmetric.md R606) -/
def Obligations.AcChangeWritesLengthsAndForcesState : Prop :=
  ∀ (s : State) (slot : SlotIdx) (c : SlotCfg) (r : Slot),
    (SlotIs s slot .ac c r →
      BothForms (.acChgset slot) (.acChgsetI slot) s (s.withRecord slot
        { r with s0 := s.arg0.toNat % 2 ^ c.cw, s1 := s.arg1.toNat % 2 ^ c.cw, state := if s.arg2.getLsbD 0 = true then s.arg3.getLsbD 0 else r.state }))

/-- SP.SET and SP.SETI: cnt is ARG0 mod M, active 1, expired 0; everything else is as before.
(41_single_pulse.md R301, 00_scope.md R17) -/
def Obligations.SpSetArms : Prop :=
  ∀ (s : State) (slot : SlotIdx) (c : SlotCfg) (r : Slot),
    (SlotIs s slot .sp c r →
      BothForms (.spSet slot) (.spSetI slot) s (s.withRecord slot
        { r with cnt := s.arg0.toNat % 2 ^ c.cw, active := true, expired := false }))

/-- FB.SET and FB.SETI: s0 is ARG0 mod M, dir is ARG1 bit 0, cnt 0, active 1, expired 0; everything
else is as before. (42_forward_backward.md R401) -/
def Obligations.FbSetArms : Prop :=
  ∀ (s : State) (slot : SlotIdx) (c : SlotCfg) (r : Slot),
    (SlotIs s slot .fb c r →
      BothForms (.fbSet slot) (.fbSetI slot) s (s.withRecord slot
        { r with s0 := s.arg0.toNat % 2 ^ c.cw, dir := s.arg1.getLsbD 0, cnt := 0, active := true, expired := false }))

/-- VS.SET and VS.SETI: s0, s1, s2 are ARG0, ARG2, ARG3 mod M, dir is ARG1 bit 0, cnt 0, active 1,
expired 0; everything else is as before. (42_forward_backward.md R421) -/
def Obligations.VsSetArms : Prop :=
  ∀ (s : State) (slot : SlotIdx) (c : SlotCfg) (r : Slot),
    (SlotIs s slot .vs c r →
      BothForms (.vsSet slot) (.vsSetI slot) s (s.withRecord slot
        { r with s0 := s.arg0.toNat % 2 ^ c.cw, dir := s.arg1.getLsbD 0, s1 := s.arg2.toNat % 2 ^ c.cw, s2 := s.arg3.toNat % 2 ^ c.cw, cnt := 0, active := true, expired := false }))

/-- CT.SET loads cnt and s0, CP.SET and FR.RESET load cnt, from ARG0 mod M; CT and CP become active;
tickf becomes 0; in both forms, and nothing else changes. (43_continuous.md R501, R521, R541) -/
def Obligations.ContinuousSetAndFrResetLoadThePeriod : Prop :=
  ∀ (s : State) (slot : SlotIdx) (c : SlotCfg) (r : Slot),
    (SlotIs s slot .ct c r →
      BothForms (.ctSet slot) (.ctSetI slot) s (s.withRecord slot
        { r with cnt := s.arg0.toNat % 2 ^ c.cw, s0 := s.arg0.toNat % 2 ^ c.cw, active := true, tickf := false })) ∧
    (SlotIs s slot .cp c r →
      BothForms (.cpSet slot) (.cpSetI slot) s (s.withRecord slot
        { r with cnt := s.arg0.toNat % 2 ^ c.cw, active := true, tickf := false })) ∧
    (SlotIs s slot .fr c r →
      BothForms (.frReset slot) (.frResetI slot) s (s.withRecord slot
        { r with cnt := s.arg0.toNat % 2 ^ c.cw, tickf := false }))

/-- AC.SET and AC.SETI: s0 and cnt are ARG0 mod M, s1 is ARG1 mod M, state HIGH (1), active 1, tickf
0, susp 0; everything else is as before. (44_asymmetric.md R601) -/
def Obligations.AcSetArmsHigh : Prop :=
  ∀ (s : State) (slot : SlotIdx) (c : SlotCfg) (r : Slot),
    (SlotIs s slot .ac c r →
      BothForms (.acSet slot) (.acSetI slot) s (s.withRecord slot
        { r with s0 := s.arg0.toNat % 2 ^ c.cw, s1 := s.arg1.toNat % 2 ^ c.cw, state := true, cnt := s.arg0.toNat % 2 ^ c.cw, active := true, tickf := false, susp := false }))

/-- AS.SET and AS.SETI write s0 and s1 from ARG0 and ARG1 mod M and clear expired and susp; with a
first length they start in FIRST with istate (ARG2 bit 0), else with a second length in SECOND
with the inverted state, else leave the slot inactive with cnt, state and phase unchanged.
(44_asymmetric.md R621) -/
def Obligations.AsSetArmsFirstOrSecondOrNeither : Prop :=
  ∀ (s : State) (slot : SlotIdx) (c : SlotCfg) (r : Slot),
    (SlotIs s slot .as c r →
      BothForms (.asSet slot) (.asSetI slot) s (s.withRecord slot
        (if s.arg0.toNat % 2 ^ c.cw ≠ 0 then
          { r with s0 := s.arg0.toNat % 2 ^ c.cw, s1 := s.arg1.toNat % 2 ^ c.cw, expired := false, susp := false, phase := false, state := s.arg2.getLsbD 0, cnt := s.arg0.toNat % 2 ^ c.cw, active := true }
         else if s.arg1.toNat % 2 ^ c.cw ≠ 0 then
          { r with s0 := s.arg0.toNat % 2 ^ c.cw, s1 := s.arg1.toNat % 2 ^ c.cw, expired := false, susp := false, phase := true, state := !s.arg2.getLsbD 0, cnt := s.arg1.toNat % 2 ^ c.cw, active := true }
         else { r with s0 := s.arg0.toNat % 2 ^ c.cw, s1 := s.arg1.toNat % 2 ^ c.cw, expired := false, susp := false, active := false })))

/-- BG.SET and BGO.SET and their I forms: s0 to s3 are ARG0 to ARG3 mod M, cnt 1, phase LOW (0), rem
0, active 1, tickf 0, and for BGO out 0; everything else is as before. (45_burst.md R701, R721) -/
def Obligations.BurstSetStartsThePattern : Prop :=
  ∀ (s : State) (slot : SlotIdx) (c : SlotCfg) (r : Slot),
    (SlotIs s slot .bg c r →
      BothForms (.bgSet slot) (.bgSetI slot) s (s.withRecord slot
        { r with s0 := s.arg0.toNat % 2 ^ c.cw, s1 := s.arg1.toNat % 2 ^ c.cw, s2 := s.arg2.toNat % 2 ^ c.cw, s3 := s.arg3.toNat % 2 ^ c.cw, cnt := 1, phase := false, rem := 0, active := true, tickf := false })) ∧
    (SlotIs s slot .bgo c r →
      BothForms (.bgoSet slot) (.bgoSetI slot) s (s.withRecord slot
        { r with s0 := s.arg0.toNat % 2 ^ c.cw, s1 := s.arg1.toNat % 2 ^ c.cw, s2 := s.arg2.toNat % 2 ^ c.cw, s3 := s.arg3.toNat % 2 ^ c.cw, cnt := 1, phase := false, rem := 0, out := false, active := true, tickf := false }))

/-- SP.STEP and SP.STEPI: an inactive slot is unchanged; an active one counts down modulo M and, at 0,
becomes inactive and expired; nothing else changes. (41_single_pulse.md R300, R305) -/
def Obligations.SpStepCountsDownAndExpires : Prop :=
  ∀ (s : State) (slot : SlotIdx) (c : SlotCfg) (r : Slot),
    (SlotIs s slot .sp c r →
      BothForms (.spStep slot) (.spStepI slot) s (s.withRecord slot
        (if r.active = false then r
         else if (r.cnt + 2 ^ c.cw - 1) % 2 ^ c.cw = 0 then { r with cnt := 0, active := false, expired := true }
         else { r with cnt := (r.cnt + 2 ^ c.cw - 1) % 2 ^ c.cw })))

/-- FB.STEP and FB.STEPI: an inactive slot is unchanged; forward, the counter goes up by one modulo M
and the slot expires when it is at least the setting; backward, it goes down by one and stays at
0; nothing else changes. (42_forward_backward.md R400, R405) -/
def Obligations.FbStepCountsTowardsItsEnd : Prop :=
  ∀ (s : State) (slot : SlotIdx) (c : SlotCfg) (r : Slot),
    (SlotIs s slot .fb c r →
      BothForms (.fbStep slot) (.fbStepI slot) s (s.withRecord slot
        (if r.active = false then r
         else if r.dir = false then
           if r.s0 ≤ (r.cnt + 1) % 2 ^ c.cw then
             { r with cnt := (r.cnt + 1) % 2 ^ c.cw, active := false, expired := true }
           else { r with cnt := (r.cnt + 1) % 2 ^ c.cw }
         else { r with cnt := if 1 ≤ r.cnt then r.cnt - 1 else 0 })))

/-- VS.STEP and VS.STEPI: an inactive slot is unchanged; forward, the counter goes up by s1, past M -
1 as VS_FWD_OVF says (wrap or saturate), and the slot expires when it is at least the setting;
backward, it goes down by s2 and clamps at 0; nothing else changes. (42_forward_backward.md R420,
R425, 00_scope.md R11) -/
def Obligations.VsStepMovesByItsSteps : Prop :=
  ∀ (s : State) (slot : SlotIdx) (c : SlotCfg) (r : Slot) (n : Nat), SlotIs s slot .vs c r →
    n = (if r.cnt + r.s1 ≤ 2 ^ c.cw - 1 then r.cnt + r.s1
      else if s.cfg.vsFwdOvf = .wrap then r.cnt + r.s1 - 2 ^ c.cw else 2 ^ c.cw - 1) →
    BothForms (.vsStep slot) (.vsStepI slot) s (s.withRecord slot
      (if r.active = false then r
       else if r.dir = false then
         if r.s0 ≤ n then { r with cnt := n, active := false, expired := true }
         else { r with cnt := n }
       else { r with cnt := if r.s2 ≤ r.cnt then r.cnt - r.s2 else 0 }))

/-- CT.STEP, CP.STEP and FR.STEP and their I forms count down modulo M and, at 0, reload (CT from its
period s0, CP and FR from K) and set tickf; an inactive CT or CP slot is unchanged, an FR slot has
no active test; nothing else changes. (43_continuous.md R500, R505, R520, R525, R540, R543) -/
def Obligations.ContinuousStepsReloadAtZero : Prop :=
  ∀ (s : State) (slot : SlotIdx) (c : SlotCfg) (r : Slot),
    (SlotIs s slot .ct c r →
      BothForms (.ctStep slot) (.ctStepI slot) s (s.withRecord slot
        (if r.active = false then r else if (r.cnt + 2 ^ c.cw - 1) % 2 ^ c.cw = 0 then { r with cnt := r.s0, tickf := true }
         else { r with cnt := (r.cnt + 2 ^ c.cw - 1) % 2 ^ c.cw }))) ∧
    (SlotIs s slot .cp c r →
      BothForms (.cpStep slot) (.cpStepI slot) s (s.withRecord slot
        (if r.active = false then r else if (r.cnt + 2 ^ c.cw - 1) % 2 ^ c.cw = 0 then { r with cnt := c.k, tickf := true }
         else { r with cnt := (r.cnt + 2 ^ c.cw - 1) % 2 ^ c.cw }))) ∧
    (SlotIs s slot .fr c r →
      BothForms (.frStep slot) (.frStepI slot) s (s.withRecord slot
        (if (r.cnt + 2 ^ c.cw - 1) % 2 ^ c.cw = 0 then { r with cnt := c.k, tickf := true }
         else { r with cnt := (r.cnt + 2 ^ c.cw - 1) % 2 ^ c.cw })))

/-- AC.STEP and AC.STEPI: an inactive slot is unchanged; an active one counts down modulo M and, at 0,
switches to the other phase and reloads from its length, or, where that length is 0, stays and
reloads the current phase's length; tickf is set on every reload; nothing else changes.
(44_asymmetric.md R600, R605) -/
def Obligations.AcStepSwitchesOrSkipsAPhase : Prop :=
  ∀ (s : State) (slot : SlotIdx) (c : SlotCfg) (r : Slot),
    (SlotIs s slot .ac c r →
      BothForms (.acStep slot) (.acStepI slot) s (s.withRecord slot
        (if r.active = false then r
         else if (r.cnt + 2 ^ c.cw - 1) % 2 ^ c.cw ≠ 0 then { r with cnt := (r.cnt + 2 ^ c.cw - 1) % 2 ^ c.cw }
         else if r.state = true then
           if r.s1 ≠ 0 then { r with state := false, cnt := r.s1, tickf := true }
           else { r with cnt := r.s0, tickf := true }
         else
           if r.s0 ≠ 0 then { r with state := true, cnt := r.s0, tickf := true }
           else { r with cnt := r.s1, tickf := true })))

/-- AS.STEP and AS.STEPI: an inactive slot is unchanged; an active one counts down modulo M and, at 0,
goes from FIRST to SECOND with the state flipped where there is a second length, else becomes
inactive and expired; nothing else changes. (44_asymmetric.md R620, R625) -/
def Obligations.AsStepChangesHalfOrExpires : Prop :=
  ∀ (s : State) (slot : SlotIdx) (c : SlotCfg) (r : Slot),
    (SlotIs s slot .as c r →
      BothForms (.asStep slot) (.asStepI slot) s (s.withRecord slot
        (if r.active = false then r
         else if (r.cnt + 2 ^ c.cw - 1) % 2 ^ c.cw ≠ 0 then { r with cnt := (r.cnt + 2 ^ c.cw - 1) % 2 ^ c.cw }
         else if r.phase = false ∧ r.s1 ≠ 0 then
           { r with state := !r.state, phase := true, cnt := r.s1 }
         else { r with cnt := 0, active := false, expired := true })))

/-- BG.STEP and BGO.STEP and their I forms: an inactive slot is unchanged; an active one counts down
modulo M and, at 0, goes LOW to HIGH (rem reloaded from pulses if 0, count from ht) or HIGH to LOW
(one pulse less modulo M, count from lt, or from it when none is left), sets tickf, and BGO's out
takes the new phase; nothing else changes. (45_burst.md R700, R705, R720, R725) -/
def Obligations.BurstStepsFollowThePattern : Prop :=
  ∀ (s : State) (slot : SlotIdx) (c : SlotCfg) (r : Slot),
    (SlotIs s slot .bg c r →
      BothForms (.bgStep slot) (.bgStepI slot) s (s.withRecord slot
        (if r.active = false then r
         else if (r.cnt + 2 ^ c.cw - 1) % 2 ^ c.cw ≠ 0 then { r with cnt := (r.cnt + 2 ^ c.cw - 1) % 2 ^ c.cw }
         else if r.phase = false then
           { r with rem := if r.rem = 0 then r.s0 else r.rem, phase := true, cnt := r.s1, tickf := true }
         else
           { r with
             phase := false, rem := (r.rem + 2 ^ c.cw - 1) % 2 ^ c.cw
             cnt := if (r.rem + 2 ^ c.cw - 1) % 2 ^ c.cw ≠ 0 then r.s2 else r.s3, tickf := true }))) ∧
    (SlotIs s slot .bgo c r →
      BothForms (.bgoStep slot) (.bgoStepI slot) s (s.withRecord slot
        (if r.active = false then r
         else if (r.cnt + 2 ^ c.cw - 1) % 2 ^ c.cw ≠ 0 then { r with cnt := (r.cnt + 2 ^ c.cw - 1) % 2 ^ c.cw }
         else if r.phase = false then
           { r with rem := if r.rem = 0 then r.s0 else r.rem, phase := true, cnt := r.s1, out := true, tickf := true }
         else
           { r with
             phase := false, rem := (r.rem + 2 ^ c.cw - 1) % 2 ^ c.cw
             cnt := if (r.rem + 2 ^ c.cw - 1) % 2 ^ c.cw ≠ 0 then r.s2 else r.s3, out := false, tickf := true })))

/-- For every argument, width and state: k dispatches after SP.SET the slot is expired exactly when k
is at least the period (the argument mod M, or M where that is 0), and active exactly before.
(41_single_pulse.md R300, R301 (contract), 00_scope.md R14) -/
def Obligations.SpExpiresOnExactlyThePeriodthDispatch : Prop :=
  ∀ (s t : State) (slot : SlotIdx) (c : SlotCfg) (r : Slot) (p k : Nat),
    SlotIs s slot .sp c r →
    p = (if s.arg0.toNat % 2 ^ c.cw = 0 then 2 ^ c.cw else s.arg0.toNat % 2 ^ c.cw) →
    exec (.spSet slot) s = .next t →
      ∃ r' : Slot, (dispatch^[k] t).slots[slot.toNat]? = some r' ∧
        (r'.expired = true ↔ p ≤ k) ∧ (r'.active = true ↔ k < p)

/-- k dispatches after a forward FB.SET the slot is expired exactly when k is at least the setting (at
least 1), active exactly before, and its counter is k until then and stays there.
(42_forward_backward.md R400, R401 (corner cases), 10_state.md R64 item 3) -/
def Obligations.FbForwardExpiresOnExactlyTheSettingthDispatch : Prop :=
  ∀ (s t : State) (slot : SlotIdx) (c : SlotCfg) (r : Slot) (p k : Nat),
    SlotIs s slot .fb c r → 1 ≤ c.cw → s.arg1.getLsbD 0 = false →
    p = max (s.arg0.toNat % 2 ^ c.cw) 1 → exec (.fbSet slot) s = .next t →
      ∃ r' : Slot, (dispatch^[k] t).slots[slot.toNat]? = some r' ∧
        (r'.expired = true ↔ p ≤ k) ∧ (r'.active = true ↔ k < p) ∧ r'.cnt = min k p

/-- For every argument: dispatch k + 1 after CT.SET raises the flag (seen on a record whose flag was
cleared) exactly when the period divides k + 1, for ever; a flag nobody clears is set from the
period-th dispatch on. (43_continuous.md R500, R501 (contract), 00_scope.md R14) -/
def Obligations.CtFlagsExactlyEveryPeriod : Prop :=
  ∀ (s t : State) (slot : SlotIdx) (c : SlotCfg) (r : Slot) (p k : Nat),
    SlotIs s slot .ct c r →
    p = (if s.arg0.toNat % 2 ^ c.cw = 0 then 2 ^ c.cw else s.arg0.toNat % 2 ^ c.cw) →
    exec (.ctSet slot) s = .next t →
      ∃ r' : Slot, (dispatch^[k] t).slots[slot.toNat]? = some r' ∧ r'.active = true ∧
        ((tCt c { r' with tickf := false }).tickf = true ↔ p ∣ k + 1) ∧
        (r'.tickf = true ↔ p ≤ k)

/-- With both lengths at least 1, after k dispatches the state is HIGH exactly when k mod (high + low)
is below high. (44_asymmetric.md R600, R601 (corner cases)) -/
def Obligations.AcDutyCycleIsHighThenLow : Prop :=
  ∀ (s t : State) (slot : SlotIdx) (c : SlotCfg) (r : Slot) (h l k : Nat),
    SlotIs s slot .ac c r → h = s.arg0.toNat % 2 ^ c.cw → l = s.arg1.toNat % 2 ^ c.cw →
    1 ≤ h → 1 ≤ l → exec (.acSet slot) s = .next t →
      ∃ r' : Slot, (dispatch^[k] t).slots[slot.toNat]? = some r' ∧ r'.active = true ∧
        (r'.state = true ↔ k % (h + l) < h)

/-- With all four values at least 1, the phase after k + 1 dispatches is HIGH exactly in the ht ticks
of each of the n pulses of a cycle of n*ht + (n-1)*lt + it ticks, LOW between pulses and in the
gap; a BGO slot's out is the phase. (45_burst.md R700, R701, R720, R721 (corner cases),
90_conflicts.md C5) -/
def Obligations.BurstCycleHasPulsesThenGap : Prop :=
  ∀ (s t : State) (i : Instr) (slot : SlotIdx) (c : SlotCfg) (r : Slot) (n ht lt it k : Nat),
    (i = .bgSet slot ∧ SlotIs s slot .bg c r) ∨ (i = .bgoSet slot ∧ SlotIs s slot .bgo c r) →
    n = s.arg0.toNat % 2 ^ c.cw → ht = s.arg1.toNat % 2 ^ c.cw →
    lt = s.arg2.toNat % 2 ^ c.cw → it = s.arg3.toNat % 2 ^ c.cw →
    1 ≤ n → 1 ≤ ht → 1 ≤ lt → 1 ≤ it → exec i s = .next t →
      ∃ r' : Slot, (dispatch^[k + 1] t).slots[slot.toNat]? = some r' ∧ r'.active = true ∧
        (r'.phase = true ↔
          k % (n * ht + (n - 1) * lt + it) < n * ht + (n - 1) * lt ∧
          k % (n * ht + (n - 1) * lt + it) % (ht + lt) < ht) ∧
        (c.vt = .bgo → r'.out = r'.phase)

/-- With at least one length not 0: k dispatches after AS.SET the slot is expired exactly when k is at
least first + second, active exactly before; its state is istate in the first semi-period (and for
ever where there is no second), the inverse from then on. (44_asymmetric.md R620, R621 (corner
cases)) -/
def Obligations.AsPulseLastsFirstPlusSecond : Prop :=
  ∀ (s t : State) (slot : SlotIdx) (c : SlotCfg) (r : Slot) (f g k : Nat),
    SlotIs s slot .as c r → f = s.arg0.toNat % 2 ^ c.cw → g = s.arg1.toNat % 2 ^ c.cw →
    1 ≤ f + g → exec (.asSet slot) s = .next t →
      ∃ r' : Slot, (dispatch^[k] t).slots[slot.toNat]? = some r' ∧
        (r'.expired = true ↔ f + g ≤ k) ∧ (r'.active = true ↔ k < f + g) ∧
        r'.state = (if k < f ∨ g = 0 then s.arg2.getLsbD 0 else !s.arg2.getLsbD 0)
end

