-- ==== Sys2Proof/Laws/Decode.lean ====
section
/-! SUPPORT. The fields of an encoded word, and the maps between codes and names. -/

namespace Sys2Proof

theorem opField_cmdWord (c : Cell) : opField (cmdWord c) = opCode c.op := by
  apply BitVec.eq_of_getLsbD_eq
  intro i hi
  simp only [opField, cmdWord, BitVec.getLsbD_extractLsb', BitVec.getLsbD_or,
    BitVec.getLsbD_shiftLeft, BitVec.getLsbD_setWidth]
  interval_cases i <;> simp

theorem vtField_cmdWord (c : Cell) : vtField (cmdWord c) = variantCode c.vt := by
  apply BitVec.eq_of_getLsbD_eq
  intro i hi
  simp only [vtField, cmdWord, BitVec.getLsbD_extractLsb', BitVec.getLsbD_or,
    BitVec.getLsbD_shiftLeft, BitVec.getLsbD_setWidth]
  interval_cases i <;> simp

theorem slotField_cmdWord (c : Cell) : slotField (cmdWord c) = c.slot := by
  apply BitVec.eq_of_getLsbD_eq
  intro i hi
  simp only [slotField, cmdWord, BitVec.getLsbD_extractLsb', BitVec.getLsbD_or,
    BitVec.getLsbD_shiftLeft, BitVec.getLsbD_setWidth]
  interval_cases i <;> simp

theorem xField_cmdWord (c : Cell) : xField (cmdWord c) = c.x := by
  simp [xField, cmdWord]

theorem rsvField_cmdWord (c : Cell) : rsvField (cmdWord c) = 0#15 := by
  apply BitVec.eq_of_getLsbD_eq
  intro i hi
  simp only [rsvField, cmdWord, BitVec.getLsbD_extractLsb', BitVec.getLsbD_or,
    BitVec.getLsbD_shiftLeft, BitVec.getLsbD_setWidth]
  interval_cases i <;> simp

/-- A word whose RSV bits are 0 is put together again from its four fields. -/
theorem word_of_fields (w : Word) (h : rsvField w = 0#15) :
    ((BitVec.ofBool (xField w)).setWidth 32 <<< 16) ||| ((slotField w).setWidth 32 <<< 8) |||
      ((vtField w).setWidth 32 <<< 4) ||| (opField w).setWidth 32 = w := by
  apply BitVec.eq_of_getLsbD_eq
  intro i hi
  have hz : ∀ j, j < 15 → w.getLsbD (17 + j) = false := by
    intro j hj
    have hj' := congrArg (·.getLsbD j) h
    simpa [rsvField, BitVec.getLsbD_extractLsb', hj] using hj'
  by_cases hlow : i < 17
  · simp only [xField, slotField, vtField, opField, BitVec.getLsbD_extractLsb', BitVec.getLsbD_or,
      BitVec.getLsbD_shiftLeft, BitVec.getLsbD_setWidth, BitVec.getLsbD_ofBool]
    interval_cases i <;> simp
  · have hi17 := hz (i - 17) (by omega)
    rw [show 17 + (i - 17) = i by omega] at hi17
    have h8 : (slotField w).getLsbD (i - 8) = false := BitVec.getLsbD_of_ge _ _ (by omega)
    have h4 : (vtField w).getLsbD (i - 4) = false := BitVec.getLsbD_of_ge _ _ (by omega)
    have h0 : (opField w).getLsbD i = false := BitVec.getLsbD_of_ge _ _ (by omega)
    have h1 : ¬ i - 16 = 0 := by omega
    simp [BitVec.getLsbD_ofBool, hi17, h8, h4, h0, h1]

@[simp] theorem variantOf_variantCode (v : Variant) : variantOf (variantCode v) = some v := by
  cases v <;> rfl

@[simp] theorem opOf_opCode (o : Op) : opOf (opCode o) = some o := by
  cases o <;> rfl

theorem variantCode_of_variantOf {b : BitVec 4} {v : Variant} (h : variantOf b = some v) :
    variantCode v = b := by
  revert b v; decide

theorem opCode_of_opOf {b : BitVec 4} {o : Op} (h : opOf b = some o) : opCode o = b := by
  revert b o; decide

@[simp] theorem instrOfCell_cell (i : Instr) : instrOfCell i.cell = some i := by
  cases i <;> rfl

theorem cell_of_instrOfCell {c : Cell} {i : Instr} (h : instrOfCell c = some i) : i.cell = c := by
  obtain ⟨x, slot, v, o⟩ := c
  cases v <;> cases o <;> cases x <;>
    first
    | (cases h; rfl)
    | cases h

/-- The fields of an instruction's word (30 R141). -/
theorem encode_fields (i : Instr) :
    rsvField (encode i) = 0#15 ∧ xField (encode i) = i.excluded ∧ slotField (encode i) = i.slot ∧
      vtField (encode i) = variantCode i.variant ∧ opField (encode i) = opCode i.op :=
  ⟨rsvField_cmdWord _, xField_cmdWord _, slotField_cmdWord _, vtField_cmdWord _, opField_cmdWord _⟩

/-- Everything the decoder can answer: which field check failed, or the cell it read (30 R148). -/
theorem decode_cases (w : Word) :
    (rsvField w ≠ 0#15 ∧ decode w = .error .cmdReserved) ∨
    (rsvField w = 0#15 ∧ instrOfFields (vtField w) (opField w) (xField w) (slotField w) = none ∧
      decode w = .error .cmdUndefinedOp) ∨
    (rsvField w = 0#15 ∧ ∃ i, instrOfFields (vtField w) (opField w) (xField w) (slotField w) = some i ∧
      decode w = .ok i) := by
  unfold decode
  by_cases h : rsvField w = 0#15
  · cases hi : instrOfFields (vtField w) (opField w) (xField w) (slotField w) with
    | none => simp [h]
    | some i => simp [h]
  · simp [h]

end Sys2Proof
end

