-- ==== Sys2Proof/Laws/State.lean ====
section
/-! SUPPORT. What each update of State does to each field, true by definition, so that no later proof
unfolds a record update. -/

namespace Sys2Proof.Machine

@[simp] theorem State.refuse_cfg (s : State) (reason : Refusal) (off : Offset) (v : Option Word) :
    (s.refuse reason off v).cfg = s.cfg := rfl
@[simp] theorem State.refuse_tie (s : State) (reason : Refusal) (off : Offset) (v : Option Word) :
    (s.refuse reason off v).tie = s.tie := rfl
@[simp] theorem State.refuse_tpend (s : State) (reason : Refusal) (off : Offset) (v : Option Word) :
    (s.refuse reason off v).tpend = s.tpend := rfl
@[simp] theorem State.refuse_arg0 (s : State) (reason : Refusal) (off : Offset) (v : Option Word) :
    (s.refuse reason off v).arg0 = s.arg0 := rfl
@[simp] theorem State.refuse_arg1 (s : State) (reason : Refusal) (off : Offset) (v : Option Word) :
    (s.refuse reason off v).arg1 = s.arg1 := rfl
@[simp] theorem State.refuse_arg2 (s : State) (reason : Refusal) (off : Offset) (v : Option Word) :
    (s.refuse reason off v).arg2 = s.arg2 := rfl
@[simp] theorem State.refuse_arg3 (s : State) (reason : Refusal) (off : Offset) (v : Option Word) :
    (s.refuse reason off v).arg3 = s.arg3 := rfl
@[simp] theorem State.refuse_slots (s : State) (reason : Refusal) (off : Offset) (v : Option Word) :
    (s.refuse reason off v).slots = s.slots := rfl
@[simp] theorem State.refuse_lostTicks (s : State) (reason : Refusal) (off : Offset) (v : Option Word) :
    (s.refuse reason off v).lostTicks = s.lostTicks := rfl
@[simp] theorem State.refuse_faults (s : State) (reason : Refusal) (off : Offset) (v : Option Word) :
    (s.refuse reason off v).faults = s.faults := rfl
@[simp] theorem State.refuse_refused (s : State) (reason : Refusal) (off : Offset) (v : Option Word) :
    (s.refuse reason off v).refused = true := rfl
@[simp] theorem State.refuse_refusals (s : State) (reason : Refusal) (off : Offset) (v : Option Word) :
    (s.refuse reason off v).refusals = s.refusals ++ [⟨reason, off, v⟩] := rfl
@[simp] theorem State.refuse_freeCount (s : State) (reason : Refusal) (off : Offset) (v : Option Word) :
    (s.refuse reason off v).freeCount = s.freeCount := rfl
@[simp] theorem State.refuse_inputs (s : State) (reason : Refusal) (off : Offset) (v : Option Word) :
    (s.refuse reason off v).inputs = s.inputs := rfl
@[simp] theorem State.refuse_rdata (s : State) (reason : Refusal) (off : Offset) (v : Option Word) :
    (s.refuse reason off v).rdata = s.rdata := rfl

@[simp] theorem State.unexcluded_cfg (s : State) (c : SlotCfg) (i : Nat) (w : Word) :
    (s.unexcluded c i w).cfg = s.cfg := rfl
@[simp] theorem State.unexcluded_tie (s : State) (c : SlotCfg) (i : Nat) (w : Word) :
    (s.unexcluded c i w).tie = s.tie := rfl
@[simp] theorem State.unexcluded_tpend (s : State) (c : SlotCfg) (i : Nat) (w : Word) :
    (s.unexcluded c i w).tpend = s.tpend := rfl
@[simp] theorem State.unexcluded_arg0 (s : State) (c : SlotCfg) (i : Nat) (w : Word) :
    (s.unexcluded c i w).arg0 = s.arg0 := rfl
@[simp] theorem State.unexcluded_arg1 (s : State) (c : SlotCfg) (i : Nat) (w : Word) :
    (s.unexcluded c i w).arg1 = s.arg1 := rfl
@[simp] theorem State.unexcluded_arg2 (s : State) (c : SlotCfg) (i : Nat) (w : Word) :
    (s.unexcluded c i w).arg2 = s.arg2 := rfl
@[simp] theorem State.unexcluded_arg3 (s : State) (c : SlotCfg) (i : Nat) (w : Word) :
    (s.unexcluded c i w).arg3 = s.arg3 := rfl
@[simp] theorem State.unexcluded_slots (s : State) (c : SlotCfg) (i : Nat) (w : Word) :
    (s.unexcluded c i w).slots = s.slots.set i (tornSlot c s.freeCount (s.slotRec i)) := rfl
@[simp] theorem State.unexcluded_lostTicks (s : State) (c : SlotCfg) (i : Nat) (w : Word) :
    (s.unexcluded c i w).lostTicks = s.lostTicks := rfl
@[simp] theorem State.unexcluded_faults (s : State) (c : SlotCfg) (i : Nat) (w : Word) :
    (s.unexcluded c i w).faults = s.faults ++ [⟨.unexcluded, w⟩] := rfl
@[simp] theorem State.unexcluded_refused (s : State) (c : SlotCfg) (i : Nat) (w : Word) :
    (s.unexcluded c i w).refused = s.refused := rfl
@[simp] theorem State.unexcluded_refusals (s : State) (c : SlotCfg) (i : Nat) (w : Word) :
    (s.unexcluded c i w).refusals = s.refusals := rfl
@[simp] theorem State.unexcluded_freeCount (s : State) (c : SlotCfg) (i : Nat) (w : Word) :
    (s.unexcluded c i w).freeCount = s.freeCount + 1 := rfl
@[simp] theorem State.unexcluded_inputs (s : State) (c : SlotCfg) (i : Nat) (w : Word) :
    (s.unexcluded c i w).inputs = s.inputs := rfl
@[simp] theorem State.unexcluded_rdata (s : State) (c : SlotCfg) (i : Nat) (w : Word) :
    (s.unexcluded c i w).rdata = s.rdata := rfl

@[simp] theorem State.setSlot_cfg (s : State) (i : Nat) (r : Slot) :
    (s.setSlot i r).cfg = s.cfg := rfl
@[simp] theorem State.setSlot_tie (s : State) (i : Nat) (r : Slot) :
    (s.setSlot i r).tie = s.tie := rfl
@[simp] theorem State.setSlot_tpend (s : State) (i : Nat) (r : Slot) :
    (s.setSlot i r).tpend = s.tpend := rfl
@[simp] theorem State.setSlot_arg0 (s : State) (i : Nat) (r : Slot) :
    (s.setSlot i r).arg0 = s.arg0 := rfl
@[simp] theorem State.setSlot_arg1 (s : State) (i : Nat) (r : Slot) :
    (s.setSlot i r).arg1 = s.arg1 := rfl
@[simp] theorem State.setSlot_arg2 (s : State) (i : Nat) (r : Slot) :
    (s.setSlot i r).arg2 = s.arg2 := rfl
@[simp] theorem State.setSlot_arg3 (s : State) (i : Nat) (r : Slot) :
    (s.setSlot i r).arg3 = s.arg3 := rfl
@[simp] theorem State.setSlot_slots (s : State) (i : Nat) (r : Slot) :
    (s.setSlot i r).slots = s.slots.set i r := rfl
@[simp] theorem State.setSlot_lostTicks (s : State) (i : Nat) (r : Slot) :
    (s.setSlot i r).lostTicks = s.lostTicks := rfl
@[simp] theorem State.setSlot_faults (s : State) (i : Nat) (r : Slot) :
    (s.setSlot i r).faults = s.faults := rfl
@[simp] theorem State.setSlot_refused (s : State) (i : Nat) (r : Slot) :
    (s.setSlot i r).refused = s.refused := rfl
@[simp] theorem State.setSlot_refusals (s : State) (i : Nat) (r : Slot) :
    (s.setSlot i r).refusals = s.refusals := rfl
@[simp] theorem State.setSlot_freeCount (s : State) (i : Nat) (r : Slot) :
    (s.setSlot i r).freeCount = s.freeCount := rfl
@[simp] theorem State.setSlot_inputs (s : State) (i : Nat) (r : Slot) :
    (s.setSlot i r).inputs = s.inputs := rfl
@[simp] theorem State.setSlot_rdata (s : State) (i : Nat) (r : Slot) :
    (s.setSlot i r).rdata = s.rdata := rfl

@[simp] theorem State.takeEvent_cfg (s : State) (rest : List Event) :
    (s.takeEvent rest).cfg = s.cfg := rfl
@[simp] theorem State.takeEvent_tie (s : State) (rest : List Event) :
    (s.takeEvent rest).tie = s.tie := rfl
@[simp] theorem State.takeEvent_tpend (s : State) (rest : List Event) :
    (s.takeEvent rest).tpend = s.tpend := rfl
@[simp] theorem State.takeEvent_arg0 (s : State) (rest : List Event) :
    (s.takeEvent rest).arg0 = s.arg0 := rfl
@[simp] theorem State.takeEvent_arg1 (s : State) (rest : List Event) :
    (s.takeEvent rest).arg1 = s.arg1 := rfl
@[simp] theorem State.takeEvent_arg2 (s : State) (rest : List Event) :
    (s.takeEvent rest).arg2 = s.arg2 := rfl
@[simp] theorem State.takeEvent_arg3 (s : State) (rest : List Event) :
    (s.takeEvent rest).arg3 = s.arg3 := rfl
@[simp] theorem State.takeEvent_slots (s : State) (rest : List Event) :
    (s.takeEvent rest).slots = s.slots := rfl
@[simp] theorem State.takeEvent_lostTicks (s : State) (rest : List Event) :
    (s.takeEvent rest).lostTicks = s.lostTicks := rfl
@[simp] theorem State.takeEvent_faults (s : State) (rest : List Event) :
    (s.takeEvent rest).faults = s.faults := rfl
@[simp] theorem State.takeEvent_refused (s : State) (rest : List Event) :
    (s.takeEvent rest).refused = s.refused := rfl
@[simp] theorem State.takeEvent_refusals (s : State) (rest : List Event) :
    (s.takeEvent rest).refusals = s.refusals := rfl
@[simp] theorem State.takeEvent_freeCount (s : State) (rest : List Event) :
    (s.takeEvent rest).freeCount = s.freeCount := rfl
@[simp] theorem State.takeEvent_inputs (s : State) (rest : List Event) :
    (s.takeEvent rest).inputs = rest := rfl
@[simp] theorem State.takeEvent_rdata (s : State) (rest : List Event) :
    (s.takeEvent rest).rdata = none := rfl

@[simp] theorem dispatch_cfg (s : State) :
    (dispatch s).cfg = s.cfg := rfl
@[simp] theorem dispatch_tie (s : State) :
    (dispatch s).tie = s.tie := rfl
@[simp] theorem dispatch_tpend (s : State) :
    (dispatch s).tpend = s.tpend := rfl
@[simp] theorem dispatch_arg0 (s : State) :
    (dispatch s).arg0 = s.arg0 := rfl
@[simp] theorem dispatch_arg1 (s : State) :
    (dispatch s).arg1 = s.arg1 := rfl
@[simp] theorem dispatch_arg2 (s : State) :
    (dispatch s).arg2 = s.arg2 := rfl
@[simp] theorem dispatch_arg3 (s : State) :
    (dispatch s).arg3 = s.arg3 := rfl
@[simp] theorem dispatch_slots (s : State) :
    (dispatch s).slots = dispatchSlots s.cfg.vsFwdOvf s.cfg.slots s.slots := rfl
@[simp] theorem dispatch_lostTicks (s : State) :
    (dispatch s).lostTicks = s.lostTicks := rfl
@[simp] theorem dispatch_faults (s : State) :
    (dispatch s).faults = s.faults := rfl
@[simp] theorem dispatch_refused (s : State) :
    (dispatch s).refused = s.refused := rfl
@[simp] theorem dispatch_refusals (s : State) :
    (dispatch s).refusals = s.refusals := rfl
@[simp] theorem dispatch_freeCount (s : State) :
    (dispatch s).freeCount = s.freeCount := rfl
@[simp] theorem dispatch_inputs (s : State) :
    (dispatch s).inputs = s.inputs := rfl
@[simp] theorem dispatch_rdata (s : State) :
    (dispatch s).rdata = s.rdata := rfl

@[simp] theorem statWrite_cfg (i : Nat) (v : Word) (s : State) :
    (statWrite i v s).cfg = s.cfg := rfl
@[simp] theorem statWrite_tie (i : Nat) (v : Word) (s : State) :
    (statWrite i v s).tie = s.tie := rfl
@[simp] theorem statWrite_tpend (i : Nat) (v : Word) (s : State) :
    (statWrite i v s).tpend = s.tpend := rfl
@[simp] theorem statWrite_arg0 (i : Nat) (v : Word) (s : State) :
    (statWrite i v s).arg0 = s.arg0 := rfl
@[simp] theorem statWrite_arg1 (i : Nat) (v : Word) (s : State) :
    (statWrite i v s).arg1 = s.arg1 := rfl
@[simp] theorem statWrite_arg2 (i : Nat) (v : Word) (s : State) :
    (statWrite i v s).arg2 = s.arg2 := rfl
@[simp] theorem statWrite_arg3 (i : Nat) (v : Word) (s : State) :
    (statWrite i v s).arg3 = s.arg3 := rfl
@[simp] theorem statWrite_slots (i : Nat) (v : Word) (s : State) :
    (statWrite i v s).slots = s.slots.set i (clearFlags (s.cfg.slots.getD i default).vt v (s.slotRec i)) := rfl
@[simp] theorem statWrite_lostTicks (i : Nat) (v : Word) (s : State) :
    (statWrite i v s).lostTicks = s.lostTicks := rfl
@[simp] theorem statWrite_faults (i : Nat) (v : Word) (s : State) :
    (statWrite i v s).faults = s.faults := rfl
@[simp] theorem statWrite_refused (i : Nat) (v : Word) (s : State) :
    (statWrite i v s).refused = s.refused := rfl
@[simp] theorem statWrite_refusals (i : Nat) (v : Word) (s : State) :
    (statWrite i v s).refusals = s.refusals := rfl
@[simp] theorem statWrite_freeCount (i : Nat) (v : Word) (s : State) :
    (statWrite i v s).freeCount = s.freeCount := rfl
@[simp] theorem statWrite_inputs (i : Nat) (v : Word) (s : State) :
    (statWrite i v s).inputs = s.inputs := rfl
@[simp] theorem statWrite_rdata (i : Nat) (v : Word) (s : State) :
    (statWrite i v s).rdata = s.rdata := rfl

@[simp] theorem State.setArg_cfg (s : State) (k : Fin 4) (v : Word) :
    (s.setArg k v).cfg = s.cfg := by
  match k with
  | 0 | 1 | 2 | 3 => rfl
@[simp] theorem State.setArg_tie (s : State) (k : Fin 4) (v : Word) :
    (s.setArg k v).tie = s.tie := by
  match k with
  | 0 | 1 | 2 | 3 => rfl
@[simp] theorem State.setArg_tpend (s : State) (k : Fin 4) (v : Word) :
    (s.setArg k v).tpend = s.tpend := by
  match k with
  | 0 | 1 | 2 | 3 => rfl
@[simp] theorem State.setArg_slots (s : State) (k : Fin 4) (v : Word) :
    (s.setArg k v).slots = s.slots := by
  match k with
  | 0 | 1 | 2 | 3 => rfl
@[simp] theorem State.setArg_lostTicks (s : State) (k : Fin 4) (v : Word) :
    (s.setArg k v).lostTicks = s.lostTicks := by
  match k with
  | 0 | 1 | 2 | 3 => rfl
@[simp] theorem State.setArg_faults (s : State) (k : Fin 4) (v : Word) :
    (s.setArg k v).faults = s.faults := by
  match k with
  | 0 | 1 | 2 | 3 => rfl
@[simp] theorem State.setArg_refused (s : State) (k : Fin 4) (v : Word) :
    (s.setArg k v).refused = s.refused := by
  match k with
  | 0 | 1 | 2 | 3 => rfl
@[simp] theorem State.setArg_refusals (s : State) (k : Fin 4) (v : Word) :
    (s.setArg k v).refusals = s.refusals := by
  match k with
  | 0 | 1 | 2 | 3 => rfl
@[simp] theorem State.setArg_freeCount (s : State) (k : Fin 4) (v : Word) :
    (s.setArg k v).freeCount = s.freeCount := by
  match k with
  | 0 | 1 | 2 | 3 => rfl
@[simp] theorem State.setArg_inputs (s : State) (k : Fin 4) (v : Word) :
    (s.setArg k v).inputs = s.inputs := by
  match k with
  | 0 | 1 | 2 | 3 => rfl
@[simp] theorem State.setArg_rdata (s : State) (k : Fin 4) (v : Word) :
    (s.setArg k v).rdata = s.rdata := by
  match k with
  | 0 | 1 | 2 | 3 => rfl

@[simp] theorem State.setArg_arg_same (s : State) (k : Fin 4) (v : Word) : (s.setArg k v).arg k = v := by
  match k with
  | 0 | 1 | 2 | 3 => rfl

theorem State.setArg_arg_other (s : State) (k j : Fin 4) (v : Word) (h : j ≠ k) :
    (s.setArg k v).arg j = s.arg j := by
  revert h
  fin_cases k <;> fin_cases j <;> simp [State.setArg, State.arg]

@[simp] theorem tickEvent_cfg (s : State) : (tickEvent s).cfg = s.cfg := by
  unfold tickEvent; split_ifs <;> rfl
@[simp] theorem tickEvent_tie (s : State) : (tickEvent s).tie = s.tie := by
  unfold tickEvent; split_ifs <;> rfl
@[simp] theorem tickEvent_arg0 (s : State) : (tickEvent s).arg0 = s.arg0 := by
  unfold tickEvent; split_ifs <;> rfl
@[simp] theorem tickEvent_arg1 (s : State) : (tickEvent s).arg1 = s.arg1 := by
  unfold tickEvent; split_ifs <;> rfl
@[simp] theorem tickEvent_arg2 (s : State) : (tickEvent s).arg2 = s.arg2 := by
  unfold tickEvent; split_ifs <;> rfl
@[simp] theorem tickEvent_arg3 (s : State) : (tickEvent s).arg3 = s.arg3 := by
  unfold tickEvent; split_ifs <;> rfl
@[simp] theorem tickEvent_faults (s : State) : (tickEvent s).faults = s.faults := by
  unfold tickEvent; split_ifs <;> rfl
@[simp] theorem tickEvent_refused (s : State) : (tickEvent s).refused = s.refused := by
  unfold tickEvent; split_ifs <;> rfl
@[simp] theorem tickEvent_refusals (s : State) : (tickEvent s).refusals = s.refusals := by
  unfold tickEvent; split_ifs <;> rfl
@[simp] theorem tickEvent_freeCount (s : State) : (tickEvent s).freeCount = s.freeCount := by
  unfold tickEvent; split_ifs <;> rfl
@[simp] theorem tickEvent_inputs (s : State) : (tickEvent s).inputs = s.inputs := by
  unfold tickEvent; split_ifs <;> rfl
@[simp] theorem tickEvent_rdata (s : State) : (tickEvent s).rdata = s.rdata := by
  unfold tickEvent; split_ifs <;> rfl
@[simp] theorem ctrlWrite_cfg (v : Word) (s : State) : (ctrlWrite v s).cfg = s.cfg := by
  unfold ctrlWrite; split_ifs <;> rfl
@[simp] theorem ctrlWrite_arg0 (v : Word) (s : State) : (ctrlWrite v s).arg0 = s.arg0 := by
  unfold ctrlWrite; split_ifs <;> rfl
@[simp] theorem ctrlWrite_arg1 (v : Word) (s : State) : (ctrlWrite v s).arg1 = s.arg1 := by
  unfold ctrlWrite; split_ifs <;> rfl
@[simp] theorem ctrlWrite_arg2 (v : Word) (s : State) : (ctrlWrite v s).arg2 = s.arg2 := by
  unfold ctrlWrite; split_ifs <;> rfl
@[simp] theorem ctrlWrite_arg3 (v : Word) (s : State) : (ctrlWrite v s).arg3 = s.arg3 := by
  unfold ctrlWrite; split_ifs <;> rfl
@[simp] theorem ctrlWrite_lostTicks (v : Word) (s : State) : (ctrlWrite v s).lostTicks = s.lostTicks := by
  unfold ctrlWrite; split_ifs <;> rfl
@[simp] theorem ctrlWrite_faults (v : Word) (s : State) : (ctrlWrite v s).faults = s.faults := by
  unfold ctrlWrite; split_ifs <;> rfl
@[simp] theorem ctrlWrite_refused (v : Word) (s : State) : (ctrlWrite v s).refused = s.refused := by
  unfold ctrlWrite; split_ifs <;> rfl
@[simp] theorem ctrlWrite_refusals (v : Word) (s : State) : (ctrlWrite v s).refusals = s.refusals := by
  unfold ctrlWrite; split_ifs <;> rfl
@[simp] theorem ctrlWrite_freeCount (v : Word) (s : State) : (ctrlWrite v s).freeCount = s.freeCount := by
  unfold ctrlWrite; split_ifs <;> rfl
@[simp] theorem ctrlWrite_inputs (v : Word) (s : State) : (ctrlWrite v s).inputs = s.inputs := by
  unfold ctrlWrite; split_ifs <;> rfl
@[simp] theorem ctrlWrite_rdata (v : Word) (s : State) : (ctrlWrite v s).rdata = s.rdata := by
  unfold ctrlWrite; split_ifs <;> rfl
@[simp] theorem transitionAt_cfg (s : State) (i : Nat) : (transitionAt s i).cfg = s.cfg := by
  unfold transitionAt; split <;> rfl
@[simp] theorem transitionAt_tie (s : State) (i : Nat) : (transitionAt s i).tie = s.tie := by
  unfold transitionAt; split <;> rfl
@[simp] theorem transitionAt_tpend (s : State) (i : Nat) : (transitionAt s i).tpend = s.tpend := by
  unfold transitionAt; split <;> rfl
@[simp] theorem transitionAt_arg0 (s : State) (i : Nat) : (transitionAt s i).arg0 = s.arg0 := by
  unfold transitionAt; split <;> rfl
@[simp] theorem transitionAt_arg1 (s : State) (i : Nat) : (transitionAt s i).arg1 = s.arg1 := by
  unfold transitionAt; split <;> rfl
@[simp] theorem transitionAt_arg2 (s : State) (i : Nat) : (transitionAt s i).arg2 = s.arg2 := by
  unfold transitionAt; split <;> rfl
@[simp] theorem transitionAt_arg3 (s : State) (i : Nat) : (transitionAt s i).arg3 = s.arg3 := by
  unfold transitionAt; split <;> rfl
@[simp] theorem transitionAt_lostTicks (s : State) (i : Nat) : (transitionAt s i).lostTicks = s.lostTicks := by
  unfold transitionAt; split <;> rfl
@[simp] theorem transitionAt_faults (s : State) (i : Nat) : (transitionAt s i).faults = s.faults := by
  unfold transitionAt; split <;> rfl
@[simp] theorem transitionAt_refused (s : State) (i : Nat) : (transitionAt s i).refused = s.refused := by
  unfold transitionAt; split <;> rfl
@[simp] theorem transitionAt_refusals (s : State) (i : Nat) : (transitionAt s i).refusals = s.refusals := by
  unfold transitionAt; split <;> rfl
@[simp] theorem transitionAt_freeCount (s : State) (i : Nat) : (transitionAt s i).freeCount = s.freeCount := by
  unfold transitionAt; split <;> rfl
@[simp] theorem transitionAt_inputs (s : State) (i : Nat) : (transitionAt s i).inputs = s.inputs := by
  unfold transitionAt; split <;> rfl
@[simp] theorem transitionAt_rdata (s : State) (i : Nat) : (transitionAt s i).rdata = s.rdata := by
  unfold transitionAt; split <;> rfl

end Sys2Proof.Machine
end

