-- ==== Sys2Proof/Laws/Exec.lean ====
section
/-! SUPPORT. What a command can do: `exec` is `runCommand` with the command's effect on its slot, and
`runCommand` answers one of four next states. -/

namespace Sys2Proof.Machine

/-- The effect of each command on its slot's record. -/
def slotEffect (i : Instr) (s : State) (c : SlotCfg) (r : Slot) : Slot :=
  match i with
  | .spSet _ => spSet c s r
  | .spSetI _ => spSet c s r
  | .spStop _ => spStop r
  | .spStopI _ => spStop r
  | .spReset _ => spReset r
  | .spResetI _ => spReset r
  | .spClear _ => spClear r
  | .spClearI _ => spClear r
  | .spStep _ => tSp c r
  | .spStepI _ => tSp c r
  | .fbSet _ => fbSet c s r
  | .fbSetI _ => fbSet c s r
  | .fbStop _ => fbStop r
  | .fbStopI _ => fbStop r
  | .fbReset _ => fbReset r
  | .fbResetI _ => fbReset r
  | .fbClear _ => fbClear r
  | .fbClearI _ => fbClear r
  | .fbStep _ => tFb c r
  | .fbStepI _ => tFb c r
  | .fbChgset _ => fbChgset c s r
  | .fbChgsetI _ => fbChgset c s r
  | .fbRevive _ => fbRevive r
  | .fbReviveI _ => fbRevive r
  | .vsSet _ => vsSet c s r
  | .vsSetI _ => vsSet c s r
  | .vsStop _ => vsStop r
  | .vsStopI _ => vsStop r
  | .vsReset _ => vsReset r
  | .vsResetI _ => vsReset r
  | .vsClear _ => vsClear r
  | .vsClearI _ => vsClear r
  | .vsStep _ => tVs s.cfg.vsFwdOvf c r
  | .vsStepI _ => tVs s.cfg.vsFwdOvf c r
  | .vsChgset _ => vsChgset c s r
  | .vsChgsetI _ => vsChgset c s r
  | .vsRevive _ => vsRevive r
  | .vsReviveI _ => vsRevive r
  | .vsChgstepf _ => vsChgstepf c s r
  | .vsChgstepfI _ => vsChgstepf c s r
  | .vsChgstepb _ => vsChgstepb c s r
  | .vsChgstepbI _ => vsChgstepb c s r
  | .ctSet _ => ctSet c s r
  | .ctSetI _ => ctSet c s r
  | .ctStop _ => ctStop r
  | .ctStopI _ => ctStop r
  | .ctReset _ => ctReset r
  | .ctResetI _ => ctReset r
  | .ctClear _ => ctClear r
  | .ctClearI _ => ctClear r
  | .ctStep _ => tCt c r
  | .ctStepI _ => tCt c r
  | .ctChgset _ => ctChgset c s r
  | .ctChgsetI _ => ctChgset c s r
  | .cpSet _ => cpSet c s r
  | .cpSetI _ => cpSet c s r
  | .cpStop _ => cpStop r
  | .cpStopI _ => cpStop r
  | .cpReset _ => cpReset r
  | .cpResetI _ => cpReset r
  | .cpClear _ => cpClear r
  | .cpClearI _ => cpClear r
  | .cpStep _ => tCp c r
  | .cpStepI _ => tCp c r
  | .frReset _ => frReset c s r
  | .frResetI _ => frReset c s r
  | .frClear _ => frClear r
  | .frClearI _ => frClear r
  | .frStep _ => tFr c r
  | .frStepI _ => tFr c r
  | .acSet _ => acSet c s r
  | .acSetI _ => acSet c s r
  | .acStop _ => acStop r
  | .acStopI _ => acStop r
  | .acReset _ => acReset r
  | .acResetI _ => acReset r
  | .acClear _ => acClear r
  | .acClearI _ => acClear r
  | .acStep _ => tAc c r
  | .acStepI _ => tAc c r
  | .acChgset _ => acChgset c s r
  | .acChgsetI _ => acChgset c s r
  | .acSuspend _ => acSuspend r
  | .acSuspendI _ => acSuspend r
  | .acResume _ => acResume r
  | .acResumeI _ => acResume r
  | .asSet _ => asSet c s r
  | .asSetI _ => asSet c s r
  | .asStop _ => asStop r
  | .asStopI _ => asStop r
  | .asReset _ => asReset r
  | .asResetI _ => asReset r
  | .asClear _ => asClear r
  | .asClearI _ => asClear r
  | .asStep _ => tAs c r
  | .asStepI _ => tAs c r
  | .asSuspend _ => asSuspend r
  | .asSuspendI _ => asSuspend r
  | .asResume _ => asResume r
  | .asResumeI _ => asResume r
  | .bgSet _ => bgSet c s r
  | .bgSetI _ => bgSet c s r
  | .bgStop _ => bgStop r
  | .bgStopI _ => bgStop r
  | .bgReset _ => bgReset r
  | .bgResetI _ => bgReset r
  | .bgClear _ => bgClear r
  | .bgClearI _ => bgClear r
  | .bgStep _ => tBg c r
  | .bgStepI _ => tBg c r
  | .bgoSet _ => bgoSet c s r
  | .bgoSetI _ => bgoSet c s r
  | .bgoStop _ => bgoStop r
  | .bgoStopI _ => bgoStop r
  | .bgoReset _ => bgoReset r
  | .bgoResetI _ => bgoReset r
  | .bgoClear _ => bgoClear r
  | .bgoClearI _ => bgoClear r
  | .bgoStep _ => tBgo c r
  | .bgoStepI _ => tBgo c r

/-- Every command is `runCommand` with its effect (40 R211). -/
theorem exec_eq_runCommand (i : Instr) (s : State) : exec i s = runCommand i (slotEffect i s) s := by
  cases i <;> rfl

theorem runCommand_range {i : Instr} {body : SlotCfg → Slot → Slot} {s : State}
    (h : s.cfg.slots[i.slot.toNat]? = none) :
    runCommand i body s = .next (s.refuse .cmdSlotRange cmdOffset (some (encode i))) := by
  simp [runCommand, h]

theorem runCommand_mismatch {i : Instr} {body : SlotCfg → Slot → Slot} {s : State} {c : SlotCfg}
    (h : s.cfg.slots[i.slot.toNat]? = some c) (hv : c.vt ≠ i.variant) :
    runCommand i body s = .next (s.refuse .cmdVariantMismatch cmdOffset (some (encode i))) := by
  simp [runCommand, h, hv]

theorem runCommand_unexcluded {i : Instr} {body : SlotCfg → Slot → Slot} {s : State} {c : SlotCfg}
    (h : s.cfg.slots[i.slot.toNat]? = some c) (hv : c.vt = i.variant) (hx : i.excluded = true)
    (ht : s.tie = true) :
    runCommand i body s = .next (s.unexcluded c i.slot.toNat (encode i)) := by
  simp [runCommand, h, hv, hx, ht]

theorem runCommand_legal {i : Instr} {body : SlotCfg → Slot → Slot} {s : State} {c : SlotCfg}
    (h : s.cfg.slots[i.slot.toNat]? = some c) (hv : c.vt = i.variant)
    (hx : i.excluded = true → s.tie = false) :
    runCommand i body s = .next (s.setSlot i.slot.toNat (body c (s.slotRec i.slot.toNat))) := by
  have hb : (i.excluded && s.tie) = false := by
    cases hi : i.excluded <;> simp_all
  simp [runCommand, h, hv, hb]

/-- Everything a command can do: refused for its slot, refused for its variant, faulted, or its
effect on its slot; nothing else. -/
theorem exec_cases (i : Instr) (s : State) :
    (s.cfg.slots[i.slot.toNat]? = none ∧
      exec i s = .next (s.refuse .cmdSlotRange cmdOffset (some (encode i)))) ∨
    ∃ c, s.cfg.slots[i.slot.toNat]? = some c ∧
      ((c.vt ≠ i.variant ∧
          exec i s = .next (s.refuse .cmdVariantMismatch cmdOffset (some (encode i)))) ∨
        (c.vt = i.variant ∧ i.excluded = true ∧ s.tie = true ∧
          exec i s = .next (s.unexcluded c i.slot.toNat (encode i))) ∨
        (c.vt = i.variant ∧ (i.excluded = true → s.tie = false) ∧
          exec i s = .next
            (s.setSlot i.slot.toNat (slotEffect i s c (s.slotRec i.slot.toNat))))) := by
  rw [exec_eq_runCommand]
  cases h : s.cfg.slots[i.slot.toNat]? with
  | none => exact .inl ⟨rfl, runCommand_range h⟩
  | some c =>
    refine .inr ⟨c, rfl, ?_⟩
    by_cases hv : c.vt = i.variant
    · by_cases hx : i.excluded = true → s.tie = false
      · exact .inr (.inr ⟨hv, hx, runCommand_legal h hv hx⟩)
      · have hx' : i.excluded = true ∧ s.tie = true := by
          cases hi : i.excluded <;> cases ht : s.tie <;> simp_all
        exact .inr (.inl ⟨hv, hx'.1, hx'.2, runCommand_unexcluded h hv hx'.1 hx'.2⟩)
    · exact .inl ⟨hv, runCommand_mismatch h hv⟩

theorem slotRec_of_getElem? {s : State} {i : Nat} {r : Slot} (h : s.slots[i]? = some r) :
    s.slotRec i = r := by
  simp [State.slotRec, List.getD_eq_getElem?_getD, h]

/-- A legal command on a slot with record `r`: the slot holds the effect on `r`. -/
theorem exec_legal {i : Instr} {s : State} {c : SlotCfg} {r : Slot}
    (h : SlotIs s i.slot i.variant c r) (hx : i.excluded = true → s.tie = false) :
    exec i s = .next (s.withRecord i.slot (slotEffect i s c r)) := by
  rw [exec_eq_runCommand, runCommand_legal h.cfg_eq h.variant_eq hx,
    slotRec_of_getElem? h.record_eq]
  rfl

end Sys2Proof.Machine
end

