-- ==== Sys2Proof/Laws/Dispatch.lean ====
section
/-! SUPPORT. What a dispatch does to each slot, and what a step can do. -/

namespace Sys2Proof.Machine

@[simp] theorem dispatchSlots_length (ovf : FwdOverflow) (cs : List SlotCfg) (rs : List Slot) :
    (dispatchSlots ovf cs rs).length = rs.length := by
  induction cs generalizing rs with
  | nil => simp [dispatchSlots]
  | cons c cs ih => cases rs <;> simp [dispatchSlots, ih]

/-- Slot j after a dispatch, from slot j before it alone (40 R203, 10 R61). -/
theorem dispatchSlots_getElem? (ovf : FwdOverflow) (cs : List SlotCfg) (rs : List Slot) (j : Nat) :
    (dispatchSlots ovf cs rs)[j]? =
      match cs[j]?, rs[j]? with
      | some c, some r => some (transition ovf c r)
      | _, r => r := by
  induction cs generalizing rs j with
  | nil => simp [dispatchSlots]
  | cons c cs ih =>
    cases rs with
    | nil => cases j <;> simp [dispatchSlots]
    | cons r rs =>
      cases j with
      | zero => simp [dispatchSlots]
      | succ j => simp [dispatchSlots, ih]

theorem dispatch_getElem? {s : State} {j : Nat} {c : SlotCfg} {r : Slot}
    (hc : s.cfg.slots[j]? = some c) (hr : s.slots[j]? = some r) :
    (dispatch s).slots[j]? = some (transition s.cfg.vsFwdOvf c r) := by
  simp [dispatchSlots_getElem?, hc, hr]

/-- k dispatches of a slot are k transitions of its record. -/
theorem dispatch_iterate_getElem? {s : State} {j : Nat} {c : SlotCfg} {r : Slot}
    (hc : s.cfg.slots[j]? = some c) (hr : s.slots[j]? = some r) (k : Nat) :
    (dispatch^[k] s).cfg = s.cfg ∧
      (dispatch^[k] s).slots[j]? = some ((transition s.cfg.vsFwdOvf c)^[k] r) := by
  induction k with
  | zero => exact ⟨rfl, hr⟩
  | succ k ih =>
    obtain ⟨hcfg, hk⟩ := ih
    rw [Function.iterate_succ_apply', Function.iterate_succ_apply']
    refine ⟨hcfg, ?_⟩
    rw [dispatch_getElem? (c := c) (by rw [hcfg]; exact hc) hk, hcfg]

/-- The transition of one slot alone leaves that slot as a dispatch does (40 R218). -/
theorem transitionAt_getElem? (s : State) (i j : Nat) :
    (transitionAt s i).slots[j]? =
      if j = i then (dispatch s).slots[j]? else s.slots[j]? := by
  unfold transitionAt
  cases hc : s.cfg.slots[i]? with
  | none =>
    simp only [dispatch_slots, dispatchSlots_getElem?]
    split_ifs with h
    · subst h; simp [hc]
    · rfl
  | some c =>
    simp only [State.setSlot_slots, dispatch_slots, dispatchSlots_getElem?, List.getElem?_set]
    by_cases h : i = j
    · subst h
      cases hr : s.slots[i]? with
      | none =>
        have : s.slots.length ≤ i := List.getElem?_eq_none_iff.mp hr
        simp [hc, this]
      | some r =>
        obtain ⟨hlt, -⟩ := List.getElem?_eq_some_iff.mp hr
        simp [hc, hlt, slotRec_of_getElem? hr]
    · simp [h, Ne.symm h]

theorem step_nil {s : State} (h : s.inputs = []) : step s = .next s := by
  simp [step, h]

theorem step_cons {s : State} {e : Event} {rest : List Event} (h : s.inputs = e :: rest) :
    step s = handleEvent e (s.afterEvent rest) := by
  simp [step, h]; rfl

/-- Everything a host read can do. -/
theorem hostRead_cases (off : Offset) (size : Nat) (s : State) :
    (∃ g v, resolve s.cfg off size = .ok g ∧ readReg s g = some v ∧
      hostRead off size s = .next { s with rdata := some v }) ∨
    ∃ reason, hostRead off size s = .next (s.refuse reason off none) := by
  unfold hostRead
  cases hr : resolve s.cfg off size with
  | error e => exact .inr ⟨e, rfl⟩
  | ok g =>
    cases hv : readReg s g with
    | none => exact .inr ⟨.busAccess, by simp [hv]⟩
    | some v => exact .inl ⟨g, v, rfl, hv, by simp [hv]⟩

/-- Everything a host write can do. -/
theorem hostWrite_cases (off : Offset) (size : Nat) (v : Word) (s : State) :
    (resolve s.cfg off size = .ok .ctrl ∧ hostWrite off size v s = .next (ctrlWrite v s)) ∨
    (∃ i, decode v = .ok i ∧ hostWrite off size v s = exec i s) ∨
    (∃ k, resolve s.cfg off size = .ok (.arg k) ∧ hostWrite off size v s = .next (s.setArg k v)) ∨
    (∃ i, resolve s.cfg off size = .ok (.stat i) ∧
      hostWrite off size v s = .next (statWrite i v s)) ∨
    ∃ reason off', hostWrite off size v s = .next (s.refuse reason off' (some v)) := by
  unfold hostWrite
  cases hr : resolve s.cfg off size with
  | error e => exact .inr (.inr (.inr (.inr ⟨e, off, rfl⟩)))
  | ok g =>
    cases g with
    | ctrl => exact .inl ⟨rfl, rfl⟩
    | cmd =>
      cases hd : decode v with
      | ok i => exact .inr (.inl ⟨i, rfl, by simp [cmdWrite, hd]⟩)
      | error e =>
        exact .inr (.inr (.inr (.inr ⟨decodeRefusal e, cmdOffset, by simp [cmdWrite, hd]⟩)))
    | arg k => exact .inr (.inr (.inl ⟨k, rfl, rfl⟩))
    | stat i => exact .inr (.inr (.inr (.inl ⟨i, rfl, rfl⟩)))
    | info => exact .inr (.inr (.inr (.inr ⟨.busAccess, off, rfl⟩)))
    | cnt i => exact .inr (.inr (.inr (.inr ⟨.busAccess, off, rfl⟩)))
    | setting k i => exact .inr (.inr (.inr (.inr ⟨.busAccess, off, rfl⟩)))
    | rem i => exact .inr (.inr (.inr (.inr ⟨.busAccess, off, rfl⟩)))

end Sys2Proof.Machine
end

