-- ==== Sys2Proof/Laws/PerInstr.lean ====
section
/-! SUPPORT. The family `EncodedFields`, one lemma per command: its word carries its form, its slot
and its cell of the opcode map, and nothing else (30 R141, R144). -/

namespace Sys2Proof.Laws.EncodedFields

/-- The word of `i` has RSV = 0, its X, SLOT, VT and OP fields are the instruction's. -/
def Statement (i : Instr) : Prop :=
  rsvField (encode i) = 0#15 ∧ xField (encode i) = i.excluded ∧ slotField (encode i) = i.slot ∧
    vtField (encode i) = variantCode i.variant ∧ opField (encode i) = opCode i.op

theorem spSet (slot : SlotIdx) : Statement (.spSet slot) := encode_fields _
theorem spSetI (slot : SlotIdx) : Statement (.spSetI slot) := encode_fields _
theorem spStop (slot : SlotIdx) : Statement (.spStop slot) := encode_fields _
theorem spStopI (slot : SlotIdx) : Statement (.spStopI slot) := encode_fields _
theorem spReset (slot : SlotIdx) : Statement (.spReset slot) := encode_fields _
theorem spResetI (slot : SlotIdx) : Statement (.spResetI slot) := encode_fields _
theorem spClear (slot : SlotIdx) : Statement (.spClear slot) := encode_fields _
theorem spClearI (slot : SlotIdx) : Statement (.spClearI slot) := encode_fields _
theorem spStep (slot : SlotIdx) : Statement (.spStep slot) := encode_fields _
theorem spStepI (slot : SlotIdx) : Statement (.spStepI slot) := encode_fields _
theorem fbSet (slot : SlotIdx) : Statement (.fbSet slot) := encode_fields _
theorem fbSetI (slot : SlotIdx) : Statement (.fbSetI slot) := encode_fields _
theorem fbStop (slot : SlotIdx) : Statement (.fbStop slot) := encode_fields _
theorem fbStopI (slot : SlotIdx) : Statement (.fbStopI slot) := encode_fields _
theorem fbReset (slot : SlotIdx) : Statement (.fbReset slot) := encode_fields _
theorem fbResetI (slot : SlotIdx) : Statement (.fbResetI slot) := encode_fields _
theorem fbClear (slot : SlotIdx) : Statement (.fbClear slot) := encode_fields _
theorem fbClearI (slot : SlotIdx) : Statement (.fbClearI slot) := encode_fields _
theorem fbStep (slot : SlotIdx) : Statement (.fbStep slot) := encode_fields _
theorem fbStepI (slot : SlotIdx) : Statement (.fbStepI slot) := encode_fields _
theorem fbChgset (slot : SlotIdx) : Statement (.fbChgset slot) := encode_fields _
theorem fbChgsetI (slot : SlotIdx) : Statement (.fbChgsetI slot) := encode_fields _
theorem fbRevive (slot : SlotIdx) : Statement (.fbRevive slot) := encode_fields _
theorem fbReviveI (slot : SlotIdx) : Statement (.fbReviveI slot) := encode_fields _
theorem vsSet (slot : SlotIdx) : Statement (.vsSet slot) := encode_fields _
theorem vsSetI (slot : SlotIdx) : Statement (.vsSetI slot) := encode_fields _
theorem vsStop (slot : SlotIdx) : Statement (.vsStop slot) := encode_fields _
theorem vsStopI (slot : SlotIdx) : Statement (.vsStopI slot) := encode_fields _
theorem vsReset (slot : SlotIdx) : Statement (.vsReset slot) := encode_fields _
theorem vsResetI (slot : SlotIdx) : Statement (.vsResetI slot) := encode_fields _
theorem vsClear (slot : SlotIdx) : Statement (.vsClear slot) := encode_fields _
theorem vsClearI (slot : SlotIdx) : Statement (.vsClearI slot) := encode_fields _
theorem vsStep (slot : SlotIdx) : Statement (.vsStep slot) := encode_fields _
theorem vsStepI (slot : SlotIdx) : Statement (.vsStepI slot) := encode_fields _
theorem vsChgset (slot : SlotIdx) : Statement (.vsChgset slot) := encode_fields _
theorem vsChgsetI (slot : SlotIdx) : Statement (.vsChgsetI slot) := encode_fields _
theorem vsRevive (slot : SlotIdx) : Statement (.vsRevive slot) := encode_fields _
theorem vsReviveI (slot : SlotIdx) : Statement (.vsReviveI slot) := encode_fields _
theorem vsChgstepf (slot : SlotIdx) : Statement (.vsChgstepf slot) := encode_fields _
theorem vsChgstepfI (slot : SlotIdx) : Statement (.vsChgstepfI slot) := encode_fields _
theorem vsChgstepb (slot : SlotIdx) : Statement (.vsChgstepb slot) := encode_fields _
theorem vsChgstepbI (slot : SlotIdx) : Statement (.vsChgstepbI slot) := encode_fields _
theorem ctSet (slot : SlotIdx) : Statement (.ctSet slot) := encode_fields _
theorem ctSetI (slot : SlotIdx) : Statement (.ctSetI slot) := encode_fields _
theorem ctStop (slot : SlotIdx) : Statement (.ctStop slot) := encode_fields _
theorem ctStopI (slot : SlotIdx) : Statement (.ctStopI slot) := encode_fields _
theorem ctReset (slot : SlotIdx) : Statement (.ctReset slot) := encode_fields _
theorem ctResetI (slot : SlotIdx) : Statement (.ctResetI slot) := encode_fields _
theorem ctClear (slot : SlotIdx) : Statement (.ctClear slot) := encode_fields _
theorem ctClearI (slot : SlotIdx) : Statement (.ctClearI slot) := encode_fields _
theorem ctStep (slot : SlotIdx) : Statement (.ctStep slot) := encode_fields _
theorem ctStepI (slot : SlotIdx) : Statement (.ctStepI slot) := encode_fields _
theorem ctChgset (slot : SlotIdx) : Statement (.ctChgset slot) := encode_fields _
theorem ctChgsetI (slot : SlotIdx) : Statement (.ctChgsetI slot) := encode_fields _
theorem cpSet (slot : SlotIdx) : Statement (.cpSet slot) := encode_fields _
theorem cpSetI (slot : SlotIdx) : Statement (.cpSetI slot) := encode_fields _
theorem cpStop (slot : SlotIdx) : Statement (.cpStop slot) := encode_fields _
theorem cpStopI (slot : SlotIdx) : Statement (.cpStopI slot) := encode_fields _
theorem cpReset (slot : SlotIdx) : Statement (.cpReset slot) := encode_fields _
theorem cpResetI (slot : SlotIdx) : Statement (.cpResetI slot) := encode_fields _
theorem cpClear (slot : SlotIdx) : Statement (.cpClear slot) := encode_fields _
theorem cpClearI (slot : SlotIdx) : Statement (.cpClearI slot) := encode_fields _
theorem cpStep (slot : SlotIdx) : Statement (.cpStep slot) := encode_fields _
theorem cpStepI (slot : SlotIdx) : Statement (.cpStepI slot) := encode_fields _
theorem frReset (slot : SlotIdx) : Statement (.frReset slot) := encode_fields _
theorem frResetI (slot : SlotIdx) : Statement (.frResetI slot) := encode_fields _
theorem frClear (slot : SlotIdx) : Statement (.frClear slot) := encode_fields _
theorem frClearI (slot : SlotIdx) : Statement (.frClearI slot) := encode_fields _
theorem frStep (slot : SlotIdx) : Statement (.frStep slot) := encode_fields _
theorem frStepI (slot : SlotIdx) : Statement (.frStepI slot) := encode_fields _
theorem acSet (slot : SlotIdx) : Statement (.acSet slot) := encode_fields _
theorem acSetI (slot : SlotIdx) : Statement (.acSetI slot) := encode_fields _
theorem acStop (slot : SlotIdx) : Statement (.acStop slot) := encode_fields _
theorem acStopI (slot : SlotIdx) : Statement (.acStopI slot) := encode_fields _
theorem acReset (slot : SlotIdx) : Statement (.acReset slot) := encode_fields _
theorem acResetI (slot : SlotIdx) : Statement (.acResetI slot) := encode_fields _
theorem acClear (slot : SlotIdx) : Statement (.acClear slot) := encode_fields _
theorem acClearI (slot : SlotIdx) : Statement (.acClearI slot) := encode_fields _
theorem acStep (slot : SlotIdx) : Statement (.acStep slot) := encode_fields _
theorem acStepI (slot : SlotIdx) : Statement (.acStepI slot) := encode_fields _
theorem acChgset (slot : SlotIdx) : Statement (.acChgset slot) := encode_fields _
theorem acChgsetI (slot : SlotIdx) : Statement (.acChgsetI slot) := encode_fields _
theorem acSuspend (slot : SlotIdx) : Statement (.acSuspend slot) := encode_fields _
theorem acSuspendI (slot : SlotIdx) : Statement (.acSuspendI slot) := encode_fields _
theorem acResume (slot : SlotIdx) : Statement (.acResume slot) := encode_fields _
theorem acResumeI (slot : SlotIdx) : Statement (.acResumeI slot) := encode_fields _
theorem asSet (slot : SlotIdx) : Statement (.asSet slot) := encode_fields _
theorem asSetI (slot : SlotIdx) : Statement (.asSetI slot) := encode_fields _
theorem asStop (slot : SlotIdx) : Statement (.asStop slot) := encode_fields _
theorem asStopI (slot : SlotIdx) : Statement (.asStopI slot) := encode_fields _
theorem asReset (slot : SlotIdx) : Statement (.asReset slot) := encode_fields _
theorem asResetI (slot : SlotIdx) : Statement (.asResetI slot) := encode_fields _
theorem asClear (slot : SlotIdx) : Statement (.asClear slot) := encode_fields _
theorem asClearI (slot : SlotIdx) : Statement (.asClearI slot) := encode_fields _
theorem asStep (slot : SlotIdx) : Statement (.asStep slot) := encode_fields _
theorem asStepI (slot : SlotIdx) : Statement (.asStepI slot) := encode_fields _
theorem asSuspend (slot : SlotIdx) : Statement (.asSuspend slot) := encode_fields _
theorem asSuspendI (slot : SlotIdx) : Statement (.asSuspendI slot) := encode_fields _
theorem asResume (slot : SlotIdx) : Statement (.asResume slot) := encode_fields _
theorem asResumeI (slot : SlotIdx) : Statement (.asResumeI slot) := encode_fields _
theorem bgSet (slot : SlotIdx) : Statement (.bgSet slot) := encode_fields _
theorem bgSetI (slot : SlotIdx) : Statement (.bgSetI slot) := encode_fields _
theorem bgStop (slot : SlotIdx) : Statement (.bgStop slot) := encode_fields _
theorem bgStopI (slot : SlotIdx) : Statement (.bgStopI slot) := encode_fields _
theorem bgReset (slot : SlotIdx) : Statement (.bgReset slot) := encode_fields _
theorem bgResetI (slot : SlotIdx) : Statement (.bgResetI slot) := encode_fields _
theorem bgClear (slot : SlotIdx) : Statement (.bgClear slot) := encode_fields _
theorem bgClearI (slot : SlotIdx) : Statement (.bgClearI slot) := encode_fields _
theorem bgStep (slot : SlotIdx) : Statement (.bgStep slot) := encode_fields _
theorem bgStepI (slot : SlotIdx) : Statement (.bgStepI slot) := encode_fields _
theorem bgoSet (slot : SlotIdx) : Statement (.bgoSet slot) := encode_fields _
theorem bgoSetI (slot : SlotIdx) : Statement (.bgoSetI slot) := encode_fields _
theorem bgoStop (slot : SlotIdx) : Statement (.bgoStop slot) := encode_fields _
theorem bgoStopI (slot : SlotIdx) : Statement (.bgoStopI slot) := encode_fields _
theorem bgoReset (slot : SlotIdx) : Statement (.bgoReset slot) := encode_fields _
theorem bgoResetI (slot : SlotIdx) : Statement (.bgoResetI slot) := encode_fields _
theorem bgoClear (slot : SlotIdx) : Statement (.bgoClear slot) := encode_fields _
theorem bgoClearI (slot : SlotIdx) : Statement (.bgoClearI slot) := encode_fields _
theorem bgoStep (slot : SlotIdx) : Statement (.bgoStep slot) := encode_fields _
theorem bgoStepI (slot : SlotIdx) : Statement (.bgoStepI slot) := encode_fields _

end Sys2Proof.Laws.EncodedFields
end

