-- ==== Sys2Proof/Laws/Step.lean ====
section
/-! SUPPORT. What a command, an event and a step can do, each said once as an inversion lemma, and
where the host finds a slot's registers. -/

namespace Sys2Proof.Machine

/-- If a command answers `t`, then it was refused, faulted, or had its effect on its slot. -/
theorem exec_inv {i : Instr} {s t : State} (h : exec i s = .next t) :
    (∃ reason, t = s.refuse reason cmdOffset (some (encode i))) ∨
    (∃ c, s.cfg.slots[i.slot.toNat]? = some c ∧ c.vt = i.variant ∧ i.excluded = true ∧
      s.tie = true ∧ t = s.unexcluded c i.slot.toNat (encode i)) ∨
    (∃ c, s.cfg.slots[i.slot.toNat]? = some c ∧ c.vt = i.variant ∧
      (i.excluded = true → s.tie = false) ∧
      t = s.setSlot i.slot.toNat (slotEffect i s c (s.slotRec i.slot.toNat))) := by
  rcases exec_cases i s with ⟨_, h'⟩ | ⟨c, hc, ⟨_, h'⟩ | ⟨hv, hx, ht, h'⟩ | ⟨hv, hx, h'⟩⟩ <;>
    rw [h'] at h <;> cases h
  · exact .inl ⟨_, rfl⟩
  · exact .inl ⟨_, rfl⟩
  · exact .inr (.inl ⟨c, hc, hv, hx, ht, rfl⟩)
  · exact .inr (.inr ⟨c, hc, hv, hx, rfl⟩)

/-- What handling an event in `s` can end in. -/
inductive EventOutcome (s : State) : Event → State → Prop
  | tick : EventOutcome s .tick (tickEvent s)
  | word (off : Offset) (size : Nat) (g : Reg) (v : Word) :
      resolve s.cfg off size = .ok g → readReg s g = some v →
      EventOutcome s (.read off size) { s with rdata := some v }
  | ctrl (off : Offset) (size : Nat) (v : Word) :
      resolve s.cfg off size = .ok .ctrl → EventOutcome s (.write off size v) (ctrlWrite v s)
  | command (off : Offset) (size : Nat) (w : Word) (i : Instr) (t : State) :
      resolve s.cfg off size = .ok .cmd → decode w = .ok i → exec i s = .next t →
      EventOutcome s (.write off size w) t
  | arg (off : Offset) (size : Nat) (v : Word) (k : Fin 4) :
      resolve s.cfg off size = .ok (.arg k) → EventOutcome s (.write off size v) (s.setArg k v)
  | stat (off : Offset) (size : Nat) (v : Word) (i : Nat) :
      resolve s.cfg off size = .ok (.stat i) → EventOutcome s (.write off size v) (statWrite i v s)
  | refusal (e : Event) (reason : Refusal) (off : Offset) (v : Option Word) :
      EventOutcome s e (s.refuse reason off v)

/-- If handling an event answers `t`, then `t` is one of its outcomes. -/
theorem handleEvent_inv {e : Event} {s t : State} (h : handleEvent e s = .next t) :
    EventOutcome s e t := by
  cases e with
  | tick => cases h; exact .tick
  | read off size =>
    simp only [handleEvent, hostRead] at h
    split at h
    · cases h; exact .refusal ..
    · rename_i g hg
      split at h
      · rename_i v hv; cases h; exact .word off size g v hg hv
      · cases h; exact .refusal ..
  | write off size v =>
    simp only [handleEvent, hostWrite] at h
    split at h
    case h_2 hg => cases h; exact .ctrl off size v hg
    case h_3 hg =>
      simp only [cmdWrite] at h
      split at h
      · rename_i i hi; exact .command off size v i t hg hi h
      · cases h; exact .refusal ..
    case h_4 k hg => cases h; exact .arg off size v k hg
    case h_5 i hg => cases h; exact .stat off size v i hg
    all_goals cases h; exact .refusal ..

/-- If a step answers `t`, then there was no event and `t` is the state itself, or `t` is an outcome
of the first event. -/
theorem step_inv {s t : State} (h : step s = .next t) :
    t = s ∨ ∃ e rest, s.inputs = e :: rest ∧ EventOutcome (s.afterEvent rest) e t := by
  unfold step at h
  split at h
  · cases h; exact .inl rfl
  · rename_i e rest he
    exact .inr ⟨e, rest, he, handleEvent_inv h⟩

theorem SlotIs.lt_nSlots {s : State} {slot : SlotIdx} {v : Variant} {c : SlotCfg} {r : Slot}
    (h : SlotIs s slot v c r) : slot.toNat < s.cfg.nSlots :=
  (List.getElem?_eq_some_iff.mp h.cfg_eq).1

theorem SlotIs.getD_cfg {s : State} {slot : SlotIdx} {v : Variant} {c : SlotCfg} {r : Slot}
    (h : SlotIs s slot v c r) : s.cfg.slots.getD slot.toNat default = c := by
  simp [List.getD_eq_getElem?_getD, h.cfg_eq]

theorem SlotIs.slotRec_eq {s : State} {slot : SlotIdx} {v : Variant} {c : SlotCfg} {r : Slot}
    (h : SlotIs s slot v c r) : s.slotRec slot.toNat = r :=
  slotRec_of_getElem? h.record_eq

/-- An aligned 4-byte access at offset d of a slot's window reaches the window's register (20 R102,
R103). -/
theorem resolve_window {cfg : Config} {slot : SlotIdx} (h : slot.toNat < cfg.nSlots) {d : Nat}
    (hd : d < 0x20) (h4 : d % 4 = 0) :
    resolve cfg (BitVec.ofNat 16 (0x0100 + 0x20 * slot.toNat + d)) 4 =
      match windowReg slot.toNat d with
      | some g => .ok g
      | none => .error .busUnmapped := by
  have hs := slot.isLt
  have e : (BitVec.ofNat 16 (0x0100 + 0x20 * slot.toNat + d)).toNat =
      0x0100 + 0x20 * slot.toNat + d := by
    rw [BitVec.toNat_ofNat]; omega
  have hq : (0x0100 + 0x20 * slot.toNat + d - 0x100) / 0x20 = slot.toNat := by omega
  have hm : (0x0100 + 0x20 * slot.toNat + d - 0x100) % 0x20 = d := by omega
  have hr : regAt cfg (BitVec.ofNat 16 (0x0100 + 0x20 * slot.toNat + d)) =
      windowReg slot.toNat d := by
    unfold regAt
    simp only [e]
    rw [if_neg (by omega), hq, hm, if_pos ⟨by omega, h⟩]
  unfold resolve
  rw [if_neg (by rw [e]; omega)]
  cases hw : windowReg slot.toNat d <;> simp only [hr, hw]

end Sys2Proof.Machine
end

