-- ==== Sys2Proof/Tests/Slice0.lean ====
section
/-! SUPPORT. The model's own tests: the decoding of every constructor's words, the refusals of
WellFormed, one small step per command and per kind of event, and a witness for the hypotheses of
every obligation that has any. Expected values are the spec's (its files 41 to 45, "Encoding" and
"Example" lines, and 95_test_vectors.md) or worked by hand from the rule named. -/

namespace Sys2Proof.Tests

open Sys2Proof Sys2Proof.Machine

/-! ### Words of every command (the "Encoding" lines of 41 to 45; slot `i << 8`) -/

/-- R301, slot 0. -/
theorem test_spSet_words :
    decode 0x00000010#32 = .ok (.spSet 0) ∧
      decode 0x00010010#32 = .ok (.spSetI 0) := by decide

/-- R302, slot 255. -/
theorem test_spStop_words :
    decode 0x0000FF11#32 = .ok (.spStop 255) ∧
      decode 0x0001FF11#32 = .ok (.spStopI 255) := by decide

/-- R303, slot 17. -/
theorem test_spReset_words :
    decode 0x00001112#32 = .ok (.spReset 17) ∧
      decode 0x00011112#32 = .ok (.spResetI 17) := by decide

/-- R304, slot 24. -/
theorem test_spClear_words :
    decode 0x00001813#32 = .ok (.spClear 24) ∧
      decode 0x00011813#32 = .ok (.spClearI 24) := by decide

/-- R305, slot 31. -/
theorem test_spStep_words :
    decode 0x00001F14#32 = .ok (.spStep 31) ∧
      decode 0x00011F14#32 = .ok (.spStepI 31) := by decide

/-- R401, slot 38. -/
theorem test_fbSet_words :
    decode 0x00002620#32 = .ok (.fbSet 38) ∧
      decode 0x00012620#32 = .ok (.fbSetI 38) := by decide

/-- R402, slot 45. -/
theorem test_fbStop_words :
    decode 0x00002D21#32 = .ok (.fbStop 45) ∧
      decode 0x00012D21#32 = .ok (.fbStopI 45) := by decide

/-- R403, slot 52. -/
theorem test_fbReset_words :
    decode 0x00003422#32 = .ok (.fbReset 52) ∧
      decode 0x00013422#32 = .ok (.fbResetI 52) := by decide

/-- R404, slot 59. -/
theorem test_fbClear_words :
    decode 0x00003B23#32 = .ok (.fbClear 59) ∧
      decode 0x00013B23#32 = .ok (.fbClearI 59) := by decide

/-- R405, slot 66. -/
theorem test_fbStep_words :
    decode 0x00004224#32 = .ok (.fbStep 66) ∧
      decode 0x00014224#32 = .ok (.fbStepI 66) := by decide

/-- R406, slot 73. -/
theorem test_fbChgset_words :
    decode 0x00004925#32 = .ok (.fbChgset 73) ∧
      decode 0x00014925#32 = .ok (.fbChgsetI 73) := by decide

/-- R407, slot 80. -/
theorem test_fbRevive_words :
    decode 0x00005026#32 = .ok (.fbRevive 80) ∧
      decode 0x00015026#32 = .ok (.fbReviveI 80) := by decide

/-- R421, slot 87. -/
theorem test_vsSet_words :
    decode 0x00005730#32 = .ok (.vsSet 87) ∧
      decode 0x00015730#32 = .ok (.vsSetI 87) := by decide

/-- R422, slot 94. -/
theorem test_vsStop_words :
    decode 0x00005E31#32 = .ok (.vsStop 94) ∧
      decode 0x00015E31#32 = .ok (.vsStopI 94) := by decide

/-- R423, slot 101. -/
theorem test_vsReset_words :
    decode 0x00006532#32 = .ok (.vsReset 101) ∧
      decode 0x00016532#32 = .ok (.vsResetI 101) := by decide

/-- R424, slot 108. -/
theorem test_vsClear_words :
    decode 0x00006C33#32 = .ok (.vsClear 108) ∧
      decode 0x00016C33#32 = .ok (.vsClearI 108) := by decide

/-- R425, slot 115. -/
theorem test_vsStep_words :
    decode 0x00007334#32 = .ok (.vsStep 115) ∧
      decode 0x00017334#32 = .ok (.vsStepI 115) := by decide

/-- R426, slot 122. -/
theorem test_vsChgset_words :
    decode 0x00007A35#32 = .ok (.vsChgset 122) ∧
      decode 0x00017A35#32 = .ok (.vsChgsetI 122) := by decide

/-- R427, slot 129. -/
theorem test_vsRevive_words :
    decode 0x00008136#32 = .ok (.vsRevive 129) ∧
      decode 0x00018136#32 = .ok (.vsReviveI 129) := by decide

/-- R428, slot 136. -/
theorem test_vsChgstepf_words :
    decode 0x00008837#32 = .ok (.vsChgstepf 136) ∧
      decode 0x00018837#32 = .ok (.vsChgstepfI 136) := by decide

/-- R429, slot 143. -/
theorem test_vsChgstepb_words :
    decode 0x00008F38#32 = .ok (.vsChgstepb 143) ∧
      decode 0x00018F38#32 = .ok (.vsChgstepbI 143) := by decide

/-- R501, slot 150. -/
theorem test_ctSet_words :
    decode 0x00009640#32 = .ok (.ctSet 150) ∧
      decode 0x00019640#32 = .ok (.ctSetI 150) := by decide

/-- R502, slot 157. -/
theorem test_ctStop_words :
    decode 0x00009D41#32 = .ok (.ctStop 157) ∧
      decode 0x00019D41#32 = .ok (.ctStopI 157) := by decide

/-- R503, slot 164. -/
theorem test_ctReset_words :
    decode 0x0000A442#32 = .ok (.ctReset 164) ∧
      decode 0x0001A442#32 = .ok (.ctResetI 164) := by decide

/-- R504, slot 171. -/
theorem test_ctClear_words :
    decode 0x0000AB43#32 = .ok (.ctClear 171) ∧
      decode 0x0001AB43#32 = .ok (.ctClearI 171) := by decide

/-- R505, slot 178. -/
theorem test_ctStep_words :
    decode 0x0000B244#32 = .ok (.ctStep 178) ∧
      decode 0x0001B244#32 = .ok (.ctStepI 178) := by decide

/-- R506, slot 185. -/
theorem test_ctChgset_words :
    decode 0x0000B945#32 = .ok (.ctChgset 185) ∧
      decode 0x0001B945#32 = .ok (.ctChgsetI 185) := by decide

/-- R521, slot 192. -/
theorem test_cpSet_words :
    decode 0x0000C050#32 = .ok (.cpSet 192) ∧
      decode 0x0001C050#32 = .ok (.cpSetI 192) := by decide

/-- R522, slot 199. -/
theorem test_cpStop_words :
    decode 0x0000C751#32 = .ok (.cpStop 199) ∧
      decode 0x0001C751#32 = .ok (.cpStopI 199) := by decide

/-- R523, slot 206. -/
theorem test_cpReset_words :
    decode 0x0000CE52#32 = .ok (.cpReset 206) ∧
      decode 0x0001CE52#32 = .ok (.cpResetI 206) := by decide

/-- R524, slot 213. -/
theorem test_cpClear_words :
    decode 0x0000D553#32 = .ok (.cpClear 213) ∧
      decode 0x0001D553#32 = .ok (.cpClearI 213) := by decide

/-- R525, slot 220. -/
theorem test_cpStep_words :
    decode 0x0000DC54#32 = .ok (.cpStep 220) ∧
      decode 0x0001DC54#32 = .ok (.cpStepI 220) := by decide

/-- R541, slot 227. -/
theorem test_frReset_words :
    decode 0x0000E362#32 = .ok (.frReset 227) ∧
      decode 0x0001E362#32 = .ok (.frResetI 227) := by decide

/-- R542, slot 234. -/
theorem test_frClear_words :
    decode 0x0000EA63#32 = .ok (.frClear 234) ∧
      decode 0x0001EA63#32 = .ok (.frClearI 234) := by decide

/-- R543, slot 241. -/
theorem test_frStep_words :
    decode 0x0000F164#32 = .ok (.frStep 241) ∧
      decode 0x0001F164#32 = .ok (.frStepI 241) := by decide

/-- R601, slot 248. -/
theorem test_acSet_words :
    decode 0x0000F870#32 = .ok (.acSet 248) ∧
      decode 0x0001F870#32 = .ok (.acSetI 248) := by decide

/-- R602, slot 255. -/
theorem test_acStop_words :
    decode 0x0000FF71#32 = .ok (.acStop 255) ∧
      decode 0x0001FF71#32 = .ok (.acStopI 255) := by decide

/-- R603, slot 6. -/
theorem test_acReset_words :
    decode 0x00000672#32 = .ok (.acReset 6) ∧
      decode 0x00010672#32 = .ok (.acResetI 6) := by decide

/-- R604, slot 13. -/
theorem test_acClear_words :
    decode 0x00000D73#32 = .ok (.acClear 13) ∧
      decode 0x00010D73#32 = .ok (.acClearI 13) := by decide

/-- R605, slot 20. -/
theorem test_acStep_words :
    decode 0x00001474#32 = .ok (.acStep 20) ∧
      decode 0x00011474#32 = .ok (.acStepI 20) := by decide

/-- R606, slot 27. -/
theorem test_acChgset_words :
    decode 0x00001B75#32 = .ok (.acChgset 27) ∧
      decode 0x00011B75#32 = .ok (.acChgsetI 27) := by decide

/-- R610, slot 34. -/
theorem test_acSuspend_words :
    decode 0x00002279#32 = .ok (.acSuspend 34) ∧
      decode 0x00012279#32 = .ok (.acSuspendI 34) := by decide

/-- R611, slot 41. -/
theorem test_acResume_words :
    decode 0x0000297A#32 = .ok (.acResume 41) ∧
      decode 0x0001297A#32 = .ok (.acResumeI 41) := by decide

/-- R621, slot 48. -/
theorem test_asSet_words :
    decode 0x00003080#32 = .ok (.asSet 48) ∧
      decode 0x00013080#32 = .ok (.asSetI 48) := by decide

/-- R622, slot 55. -/
theorem test_asStop_words :
    decode 0x00003781#32 = .ok (.asStop 55) ∧
      decode 0x00013781#32 = .ok (.asStopI 55) := by decide

/-- R623, slot 62. -/
theorem test_asReset_words :
    decode 0x00003E82#32 = .ok (.asReset 62) ∧
      decode 0x00013E82#32 = .ok (.asResetI 62) := by decide

/-- R624, slot 69. -/
theorem test_asClear_words :
    decode 0x00004583#32 = .ok (.asClear 69) ∧
      decode 0x00014583#32 = .ok (.asClearI 69) := by decide

/-- R625, slot 76. -/
theorem test_asStep_words :
    decode 0x00004C84#32 = .ok (.asStep 76) ∧
      decode 0x00014C84#32 = .ok (.asStepI 76) := by decide

/-- R630, slot 83. -/
theorem test_asSuspend_words :
    decode 0x00005389#32 = .ok (.asSuspend 83) ∧
      decode 0x00015389#32 = .ok (.asSuspendI 83) := by decide

/-- R631, slot 90. -/
theorem test_asResume_words :
    decode 0x00005A8A#32 = .ok (.asResume 90) ∧
      decode 0x00015A8A#32 = .ok (.asResumeI 90) := by decide

/-- R701, slot 97. -/
theorem test_bgSet_words :
    decode 0x00006190#32 = .ok (.bgSet 97) ∧
      decode 0x00016190#32 = .ok (.bgSetI 97) := by decide

/-- R702, slot 104. -/
theorem test_bgStop_words :
    decode 0x00006891#32 = .ok (.bgStop 104) ∧
      decode 0x00016891#32 = .ok (.bgStopI 104) := by decide

/-- R703, slot 111. -/
theorem test_bgReset_words :
    decode 0x00006F92#32 = .ok (.bgReset 111) ∧
      decode 0x00016F92#32 = .ok (.bgResetI 111) := by decide

/-- R704, slot 118. -/
theorem test_bgClear_words :
    decode 0x00007693#32 = .ok (.bgClear 118) ∧
      decode 0x00017693#32 = .ok (.bgClearI 118) := by decide

/-- R705, slot 125. -/
theorem test_bgStep_words :
    decode 0x00007D94#32 = .ok (.bgStep 125) ∧
      decode 0x00017D94#32 = .ok (.bgStepI 125) := by decide

/-- R721, slot 132. -/
theorem test_bgoSet_words :
    decode 0x000084A0#32 = .ok (.bgoSet 132) ∧
      decode 0x000184A0#32 = .ok (.bgoSetI 132) := by decide

/-- R722, slot 139. -/
theorem test_bgoStop_words :
    decode 0x00008BA1#32 = .ok (.bgoStop 139) ∧
      decode 0x00018BA1#32 = .ok (.bgoStopI 139) := by decide

/-- R723, slot 146. -/
theorem test_bgoReset_words :
    decode 0x000092A2#32 = .ok (.bgoReset 146) ∧
      decode 0x000192A2#32 = .ok (.bgoResetI 146) := by decide

/-- R724, slot 153. -/
theorem test_bgoClear_words :
    decode 0x000099A3#32 = .ok (.bgoClear 153) ∧
      decode 0x000199A3#32 = .ok (.bgoClearI 153) := by decide

/-- R725, slot 160. -/
theorem test_bgoStep_words :
    decode 0x0000A0A4#32 = .ok (.bgoStep 160) ∧
      decode 0x0001A0A4#32 = .ok (.bgoStepI 160) := by decide

/-- 95 section 2.1: bit 17 set, SLOT not checked first. -/
theorem test_decode_reserved_bits :
    decode 0x00020010#32 = .error .cmdReserved ∧ decode 0x00020610#32 = .error .cmdReserved ∧
      decode 0x80000010#32 = .error .cmdReserved := by decide

/-- 95 section 2.1: FR.SET, a reserved VT, a reserved OP, a dash of the map; and VT 0 (30 R142). -/
theorem test_decode_undefined_op :
    decode 0x00000060#32 = .error .cmdUndefinedOp ∧ decode 0x000000B0#32 = .error .cmdUndefinedOp ∧
      decode 0x0000001B#32 = .error .cmdUndefinedOp ∧
      decode 0x00000015#32 = .error .cmdUndefinedOp ∧
      decode 0x00000000#32 = .error .cmdUndefinedOp := by decide

/-- The host's form of the word: 32 bits, bit 0 first. -/
theorem test_decodeTableWord :
    decodeTableWord 32 0x00010075 = some (.acChgsetI 0) ∧ decodeTableWord 32 0x00000060 = none := by
  decide

/-! ### WellFormed: one ill-formed term for each check -/

/-- A slot of width 8 is legal. -/
theorem test_slotCfg_accepts : ({ vt := .cp, cw := 8, k := 255, frInit := 255 } : SlotCfg).wellFormed := by
  decide

theorem test_slotCfg_refuses_width_0 : ¬ ({ vt := .sp, cw := 0 } : SlotCfg).wellFormed := by decide

theorem test_slotCfg_refuses_width_33 : ¬ ({ vt := .sp, cw := 33 } : SlotCfg).wellFormed := by decide

theorem test_slotCfg_refuses_k : ¬ ({ vt := .cp, cw := 2, k := 4 } : SlotCfg).wellFormed := by decide

theorem test_slotCfg_refuses_frInit :
    ¬ ({ vt := .fr, cw := 2, frInit := 4 } : SlotCfg).wellFormed := by decide

theorem test_config_accepts : Config.reference.wellFormed := by decide

theorem test_config_refuses_no_slot : ¬ ({ Config.reference with slots := [] } : Config).wellFormed := by
  decide

theorem test_config_refuses_257_slots :
    ¬ ({ Config.reference with slots := List.replicate 257 { vt := .sp, cw := 8 } } : Config).wellFormed := by
  intro h
  have := h.2.1
  simp only [Config.nSlots, List.length_replicate] at this
  omega

theorem test_config_refuses_bad_slot :
    ¬ ({ Config.reference with slots := [{ vt := .sp, cw := 8 }, { vt := .sp, cw := 0 }] } :
      Config).wellFormed := by decide

theorem test_config_refuses_tick_0 : ¬ ({ Config.reference with tTick := 0 } : Config).wellFormed := by
  decide

theorem test_instr_accepts : (Instr.spSet 0).wellFormed Config.reference := by decide

/-- Slot 6 of six. -/
theorem test_instr_refuses_slot : ¬ (Instr.spSet 6).wellFormed Config.reference := by decide

/-- Slot 1 is a CT slot. -/
theorem test_instr_refuses_variant : ¬ (Instr.spSet 1).wellFormed Config.reference := by decide

/-! ### One step per command -/

/-- A block with one slot of variant `v`, record `r` and width `cw`, the argument registers set. -/
def blockOf (v : Variant) (r : Slot) (a0 a1 a2 a3 : Word := 0#32) (k : Nat := 0) (cw : Nat := 8)
    (ovf : FwdOverflow := .wrap) : State :=
  { State.resetFor { slots := [{ vt := v, cw := cw, k := k }], vsFwdOvf := ovf, tTick := 1 } with
    slots := [r], arg0 := a0, arg1 := a1, arg2 := a2, arg3 := a3 }

/-- The state a result holds. -/
def stateOf : Result → State
  | .next t => t
  | _ => State.reset

/-- The one slot's record after the plain and after the already-excluded form. -/
def bothAfter (i j : Instr) (s : State) : List Slot × List Slot :=
  ((stateOf (exec i s)).slots, (stateOf (exec j s)).slots)

/-- Both forms leave the record `r`. -/
def same (r : Slot) : List Slot × List Slot := ([r], [r])

/-- A record with every field set, so that a field changed by mistake shows. -/
def busy : Slot :=
  { active := true, cnt := 9, s0 := 20, s1 := 30, s2 := 40, s3 := 50, dir := true, state := true,
    phase := true, rem := 7, susp := true, expired := true, tickf := true, out := true }

/-- R301 example. -/
theorem test_spSet :
    bothAfter (.spSet 0) (.spSetI 0)
      (blockOf .sp { busy with active := false, cnt := 0 } 3#32) =
      same { busy with cnt := 3, active := true, expired := false } := by decide

/-- 95 SP-3, period 259. -/
theorem test_spSet_truncates :
    bothAfter (.spSet 0) (.spSetI 0)
      (blockOf .sp { busy with active := false } 259#32) =
      same { busy with cnt := 3, active := true, expired := false } := by decide

/-- R302 example. -/
theorem test_spStop :
    bothAfter (.spStop 0) (.spStopI 0)
      (blockOf .sp { busy with cnt := 2 }) =
      same { busy with cnt := 2, active := false, expired := false } := by decide

/-- R303 example. -/
theorem test_spReset :
    bothAfter (.spReset 0) (.spResetI 0)
      (blockOf .sp { busy with cnt := 0, active := false }) =
      same { busy with cnt := 0, active := false, expired := false } := by decide

/-- R304 example. -/
theorem test_spClear :
    bothAfter (.spClear 0) (.spClearI 0)
      (blockOf .sp { busy with active := false }) =
      same { busy with active := false, expired := false } := by decide

/-- R305 example. -/
theorem test_spStep :
    bothAfter (.spStep 0) (.spStepI 0)
      (blockOf .sp { busy with cnt := 1, expired := false }) =
      same { busy with cnt := 0, active := false, expired := true } := by decide

/-- 95 SP-2, the count of a zero period. -/
theorem test_spStep_wraps :
    bothAfter (.spStep 0) (.spStepI 0)
      (blockOf .sp { busy with cnt := 0, expired := false } (cw := 4)) =
      same { busy with cnt := 15, expired := false } := by decide

/-- R401 example. -/
theorem test_fbSet :
    bothAfter (.fbSet 0) (.fbSetI 0)
      (blockOf .fb { busy with active := false } 5#32) =
      same { busy with
        s0 := 5, dir := false, cnt := 0, active := true, expired := false } := by decide

/-- R402 example. -/
theorem test_fbStop :
    bothAfter (.fbStop 0) (.fbStopI 0)
      (blockOf .fb { busy with cnt := 3 }) =
      same { busy with cnt := 3, active := false, expired := false } := by decide

/-- R403 example. -/
theorem test_fbReset :
    bothAfter (.fbReset 0) (.fbResetI 0)
      (blockOf .fb { busy with active := false, cnt := 5 }) =
      same { busy with cnt := 5, active := false, expired := false } := by decide

/-- R404 example. -/
theorem test_fbClear :
    bothAfter (.fbClear 0) (.fbClearI 0)
      (blockOf .fb busy) =
      same { busy with expired := false } := by decide

/-- R405 example. -/
theorem test_fbStep :
    bothAfter (.fbStep 0) (.fbStepI 0)
      (blockOf .fb { busy with cnt := 0 }) =
      same { busy with cnt := 0 } := by decide

/-- R400 example. -/
theorem test_fbStep_reaches :
    bothAfter (.fbStep 0) (.fbStepI 0)
      (blockOf .fb { busy with dir := false, cnt := 4, s0 := 5, expired := false }) =
      same { busy with
        dir := false, cnt := 5, s0 := 5, active := false, expired := true } := by decide

/-- R406 example. -/
theorem test_fbChgset :
    bothAfter (.fbChgset 0) (.fbChgsetI 0)
      (blockOf .fb { busy with dir := false, cnt := 3, s0 := 10, expired := false } 2#32) =
      same { busy with
        dir := false, cnt := 3, s0 := 2, active := false, expired := true } := by decide

/-- 95 FB-4. -/
theorem test_fbChgset_above :
    bothAfter (.fbChgset 0) (.fbChgsetI 0)
      (blockOf .fb { busy with dir := false, cnt := 3, s0 := 10, expired := false } 7#32) =
      same { busy with dir := false, cnt := 3, s0 := 7, expired := false } := by decide

/-- R407 example. -/
theorem test_fbRevive :
    bothAfter (.fbRevive 0) (.fbReviveI 0)
      (blockOf .fb { busy with cnt := 5, active := false, dir := false }) =
      same { busy with cnt := 5, active := true, dir := true } := by decide

/-- R421 example. -/
theorem test_vsSet :
    bothAfter (.vsSet 0) (.vsSetI 0)
      (blockOf .vs { busy with active := false } 10#32 0#32 3#32 2#32) =
      same { busy with
        s0 := 10, dir := false, s1 := 3, s2 := 2, cnt := 0, active := true,
        expired := false } := by decide

/-- R422 example. -/
theorem test_vsStop :
    bothAfter (.vsStop 0) (.vsStopI 0)
      (blockOf .vs { busy with cnt := 7 }) =
      same { busy with cnt := 7, active := false, expired := false } := by decide

/-- R423 example. -/
theorem test_vsReset :
    bothAfter (.vsReset 0) (.vsResetI 0)
      (blockOf .vs busy) =
      same { busy with active := false, expired := false } := by decide

/-- R424 example. -/
theorem test_vsClear :
    bothAfter (.vsClear 0) (.vsClearI 0)
      (blockOf .vs { busy with active := false }) =
      same { busy with active := false, expired := false } := by decide

/-- R425 example. -/
theorem test_vsStep :
    bothAfter (.vsStep 0) (.vsStepI 0)
      (blockOf .vs { busy with cnt := 5, s2 := 2 }) =
      same { busy with cnt := 3, s2 := 2 } := by decide

/-- R420 example, WRAP. -/
theorem test_vsStep_wraps :
    bothAfter (.vsStep 0) (.vsStepI 0)
      (blockOf .vs { busy with
        dir := false, cnt := 14, s1 := 5, s0 := 15, expired := false } (cw := 4)) =
      same { busy with dir := false, cnt := 3, s1 := 5, s0 := 15, expired := false } := by decide

/-- R426 example. -/
theorem test_vsChgset :
    bothAfter (.vsChgset 0) (.vsChgsetI 0)
      (blockOf .vs { busy with dir := false, cnt := 9, s0 := 10, expired := false } 9#32) =
      same { busy with
        dir := false, cnt := 9, s0 := 9, active := false, expired := true } := by decide

/-- R427 example. -/
theorem test_vsRevive :
    bothAfter (.vsRevive 0) (.vsReviveI 0)
      (blockOf .vs { busy with cnt := 12, active := false, dir := false }) =
      same { busy with cnt := 12, active := true, dir := true } := by decide

/-- R428 example. -/
theorem test_vsChgstepf :
    bothAfter (.vsChgstepf 0) (.vsChgstepfI 0)
      (blockOf .vs { busy with s1 := 3 } 1#32) =
      same { busy with s1 := 1 } := by decide

/-- R429 example. -/
theorem test_vsChgstepb :
    bothAfter (.vsChgstepb 0) (.vsChgstepbI 0)
      (blockOf .vs { busy with s2 := 2 } 4#32) =
      same { busy with s2 := 4 } := by decide

/-- R501 example. -/
theorem test_ctSet :
    bothAfter (.ctSet 0) (.ctSetI 0)
      (blockOf .ct { busy with active := false } 4#32) =
      same { busy with cnt := 4, s0 := 4, active := true, tickf := false } := by decide

/-- R502 example. -/
theorem test_ctStop :
    bothAfter (.ctStop 0) (.ctStopI 0)
      (blockOf .ct { busy with cnt := 3, s0 := 4 }) =
      same { busy with cnt := 3, s0 := 4, active := false, tickf := false } := by decide

/-- R503 example. -/
theorem test_ctReset :
    bothAfter (.ctReset 0) (.ctResetI 0)
      (blockOf .ct { busy with cnt := 3, s0 := 4 }) =
      same { busy with cnt := 3, s0 := 4, active := false, tickf := false } := by decide

/-- R504 example. -/
theorem test_ctClear :
    bothAfter (.ctClear 0) (.ctClearI 0)
      (blockOf .ct busy) =
      same { busy with tickf := false } := by decide

/-- R505 example. -/
theorem test_ctStep :
    bothAfter (.ctStep 0) (.ctStepI 0)
      (blockOf .ct { busy with cnt := 2, tickf := false }) =
      same { busy with cnt := 1, tickf := false } := by decide

/-- R500 example. -/
theorem test_ctStep_reloads :
    bothAfter (.ctStep 0) (.ctStepI 0)
      (blockOf .ct { busy with cnt := 1, s0 := 4, tickf := false }) =
      same { busy with cnt := 4, s0 := 4, tickf := true } := by decide

/-- R506 example. -/
theorem test_ctChgset :
    bothAfter (.ctChgset 0) (.ctChgsetI 0)
      (blockOf .ct { busy with cnt := 3, s0 := 4 } 2#32) =
      same { busy with cnt := 3, s0 := 2 } := by decide

/-- R521 example. -/
theorem test_cpSet :
    bothAfter (.cpSet 0) (.cpSetI 0)
      (blockOf .cp { busy with active := false } 3#32 (k := 3)) =
      same { busy with cnt := 3, active := true, tickf := false } := by decide

/-- R522 example. -/
theorem test_cpStop :
    bothAfter (.cpStop 0) (.cpStopI 0)
      (blockOf .cp busy) =
      same { busy with active := false, tickf := false } := by decide

/-- R523 example. -/
theorem test_cpReset :
    bothAfter (.cpReset 0) (.cpResetI 0)
      (blockOf .cp busy) =
      same { busy with active := false, tickf := false } := by decide

/-- R524 example. -/
theorem test_cpClear :
    bothAfter (.cpClear 0) (.cpClearI 0)
      (blockOf .cp busy) =
      same { busy with tickf := false } := by decide

/-- R525 example. -/
theorem test_cpStep :
    bothAfter (.cpStep 0) (.cpStepI 0)
      (blockOf .cp { busy with cnt := 4, tickf := false }) =
      same { busy with cnt := 3, tickf := false } := by decide

/-- R520 example. -/
theorem test_cpStep_reloads :
    bothAfter (.cpStep 0) (.cpStepI 0)
      (blockOf .cp { busy with cnt := 1, tickf := false } (k := 5)) =
      same { busy with cnt := 5, tickf := true } := by decide

/-- R541 example. -/
theorem test_frReset :
    bothAfter (.frReset 0) (.frResetI 0)
      (blockOf .fr busy 1#32 (k := 4)) =
      same { busy with cnt := 1, tickf := false } := by decide

/-- R542 example. -/
theorem test_frClear :
    bothAfter (.frClear 0) (.frClearI 0)
      (blockOf .fr busy) =
      same { busy with tickf := false } := by decide

/-- R543 example. -/
theorem test_frStep :
    bothAfter (.frStep 0) (.frStepI 0)
      (blockOf .fr { busy with cnt := 2, active := false, tickf := false } (k := 2)) =
      same { busy with cnt := 1, active := false, tickf := false } := by decide

/-- R540 example. -/
theorem test_frStep_reloads :
    bothAfter (.frStep 0) (.frStepI 0)
      (blockOf .fr { busy with cnt := 1, active := false, tickf := false } (k := 2)) =
      same { busy with cnt := 2, active := false, tickf := true } := by decide

/-- R601 example. -/
theorem test_acSet :
    bothAfter (.acSet 0) (.acSetI 0)
      (blockOf .ac { busy with active := false, state := false } 2#32 3#32) =
      same { busy with
        s0 := 2, s1 := 3, state := true, cnt := 2, active := true, tickf := false,
        susp := false } := by decide

/-- R602 example. -/
theorem test_acStop :
    bothAfter (.acStop 0) (.acStopI 0)
      (blockOf .ac { busy with state := false }) =
      same { busy with state := false, active := false, tickf := false, susp := false } := by decide

/-- R603 example. -/
theorem test_acReset :
    bothAfter (.acReset 0) (.acResetI 0)
      (blockOf .ac { busy with state := false }) =
      same { busy with state := false, active := false, tickf := false, susp := false } := by decide

/-- R604 example. -/
theorem test_acClear :
    bothAfter (.acClear 0) (.acClearI 0)
      (blockOf .ac busy) =
      same { busy with tickf := false } := by decide

/-- R605 example. -/
theorem test_acStep :
    bothAfter (.acStep 0) (.acStepI 0)
      (blockOf .ac { busy with state := false, cnt := 2, tickf := false }) =
      same { busy with state := false, cnt := 1, tickf := false } := by decide

/-- R600 example. -/
theorem test_acStep_switches :
    bothAfter (.acStep 0) (.acStepI 0)
      (blockOf .ac { busy with cnt := 1, s0 := 2, s1 := 3, tickf := false }) =
      same { busy with cnt := 3, s0 := 2, s1 := 3, state := false, tickf := true } := by decide

/-- R606 example. -/
theorem test_acChgset :
    bothAfter (.acChgset 0) (.acChgsetI 0)
      (blockOf .ac { busy with cnt := 1, s0 := 2, s1 := 3 } 4#32 0#32 0#32 0#32) =
      same { busy with cnt := 1, s0 := 4, s1 := 0 } := by decide

/-- 95 AC-3. -/
theorem test_acChgset_forces :
    bothAfter (.acChgset 0) (.acChgsetI 0)
      (blockOf .ac { busy with cnt := 1, s0 := 2, s1 := 3 } 4#32 1#32 1#32 0#32) =
      same { busy with cnt := 1, s0 := 4, s1 := 1, state := false } := by decide

/-- R610 example. -/
theorem test_acSuspend :
    bothAfter (.acSuspend 0) (.acSuspendI 0)
      (blockOf .ac { busy with cnt := 2, state := false, susp := false }) =
      same { busy with cnt := 2, state := false, active := false, susp := true } := by decide

/-- R611 example. -/
theorem test_acResume :
    bothAfter (.acResume 0) (.acResumeI 0)
      (blockOf .ac { busy with cnt := 2, state := false, active := false }) =
      same { busy with cnt := 2, state := false, active := true, susp := false } := by decide

/-- R621 example. -/
theorem test_asSet :
    bothAfter (.asSet 0) (.asSetI 0)
      (blockOf .as { busy with active := false, phase := false } 0#32 5#32 1#32) =
      same { busy with
        s0 := 0, s1 := 5, phase := true, state := false, cnt := 5, active := true,
        expired := false, susp := false } := by decide

/-- 95 AS-2. -/
theorem test_asSet_both_zero :
    bothAfter (.asSet 0) (.asSetI 0)
      (blockOf .as { busy with cnt := 7 } 0#32 0#32 1#32) =
      same { busy with
        cnt := 7, s0 := 0, s1 := 0, active := false, expired := false, susp := false } := by decide

/-- R622 example. -/
theorem test_asStop :
    bothAfter (.asStop 0) (.asStopI 0)
      (blockOf .as { busy with phase := false }) =
      same { busy with
        phase := false, active := false, expired := false, susp := false } := by decide

/-- R623 example. -/
theorem test_asReset :
    bothAfter (.asReset 0) (.asResetI 0)
      (blockOf .as busy) =
      same { busy with active := false, expired := false, susp := false } := by decide

/-- R624 example. -/
theorem test_asClear :
    bothAfter (.asClear 0) (.asClearI 0)
      (blockOf .as { busy with active := false }) =
      same { busy with active := false, expired := false } := by decide

/-- R625 example. -/
theorem test_asStep :
    bothAfter (.asStep 0) (.asStepI 0)
      (blockOf .as { busy with cnt := 1, expired := false }) =
      same { busy with cnt := 0, active := false, expired := true } := by decide

/-- R620 example. -/
theorem test_asStep_second_half :
    bothAfter (.asStep 0) (.asStepI 0)
      (blockOf .as { busy with phase := false, cnt := 1, s1 := 2 }) =
      same { busy with phase := true, state := false, cnt := 2, s1 := 2 } := by decide

/-- R630 example. -/
theorem test_asSuspend :
    bothAfter (.asSuspend 0) (.asSuspendI 0)
      (blockOf .as { busy with phase := false, cnt := 2, susp := false }) =
      same { busy with phase := false, cnt := 2, active := false, susp := true } := by decide

/-- R631 example. -/
theorem test_asResume :
    bothAfter (.asResume 0) (.asResumeI 0)
      (blockOf .as { busy with phase := false, cnt := 2, active := false }) =
      same { busy with phase := false, cnt := 2, active := true, susp := false } := by decide

/-- R701 example. -/
theorem test_bgSet :
    bothAfter (.bgSet 0) (.bgSetI 0)
      (blockOf .bg { busy with active := false } 3#32 2#32 1#32 5#32) =
      same { busy with
        s0 := 3, s1 := 2, s2 := 1, s3 := 5, cnt := 1, phase := false, rem := 0, active := true,
        tickf := false } := by decide

/-- R702 example. -/
theorem test_bgStop :
    bothAfter (.bgStop 0) (.bgStopI 0)
      (blockOf .bg busy) =
      same { busy with active := false, tickf := false } := by decide

/-- R703 example. -/
theorem test_bgReset :
    bothAfter (.bgReset 0) (.bgResetI 0)
      (blockOf .bg busy) =
      same { busy with active := false, tickf := false } := by decide

/-- R704 example. -/
theorem test_bgClear :
    bothAfter (.bgClear 0) (.bgClearI 0)
      (blockOf .bg busy) =
      same { busy with tickf := false } := by decide

/-- R705 example. -/
theorem test_bgStep :
    bothAfter (.bgStep 0) (.bgStepI 0)
      (blockOf .bg { busy with
        cnt := 1, phase := false, rem := 0, s0 := 3, s1 := 2, tickf := false }) =
      same { busy with
        cnt := 2, phase := true, rem := 3, s0 := 3, s1 := 2, tickf := true } := by decide

/-- R700 example. -/
theorem test_bgStep_gap :
    bothAfter (.bgStep 0) (.bgStepI 0)
      (blockOf .bg { busy with cnt := 1, rem := 1, s3 := 5, tickf := false }) =
      same { busy with
        cnt := 5, phase := false, rem := 0, s3 := 5, tickf := true } := by decide +kernel

/-- R721 example. -/
theorem test_bgoSet :
    bothAfter (.bgoSet 0) (.bgoSetI 0)
      (blockOf .bgo { busy with active := false } 3#32 2#32 1#32 5#32) =
      same { busy with
        s0 := 3, s1 := 2, s2 := 1, s3 := 5, cnt := 1, phase := false, rem := 0, active := true,
        tickf := false, out := false } := by decide

/-- R722 example. -/
theorem test_bgoStop :
    bothAfter (.bgoStop 0) (.bgoStopI 0)
      (blockOf .bgo busy) =
      same { busy with active := false, tickf := false } := by decide

/-- R723 example. -/
theorem test_bgoReset :
    bothAfter (.bgoReset 0) (.bgoResetI 0)
      (blockOf .bgo busy) =
      same { busy with active := false, tickf := false } := by decide

/-- R724 example. -/
theorem test_bgoClear :
    bothAfter (.bgoClear 0) (.bgoClearI 0)
      (blockOf .bgo busy) =
      same { busy with tickf := false } := by decide

/-- R725 example. -/
theorem test_bgoStep :
    bothAfter (.bgoStep 0) (.bgoStepI 0)
      (blockOf .bgo { busy with
        cnt := 1, phase := false, rem := 0, s0 := 3, s1 := 2, out := false, tickf := false }) =
      same { busy with
        cnt := 2, phase := true, rem := 3, s0 := 3, s1 := 2, out := true,
        tickf := true } := by decide

/-- R720 example. -/
theorem test_bgoStep_high :
    bothAfter (.bgoStep 0) (.bgoStepI 0)
      (blockOf .bgo { busy with
        cnt := 1, phase := false, rem := 2, s1 := 2, out := false, tickf := false }) =
      same { busy with
        cnt := 2, phase := true, rem := 2, s1 := 2, out := true, tickf := true } := by decide

/-- R420 example, SATURATE. -/
theorem test_vsStep_saturates :
    bothAfter (.vsStep 0) (.vsStepI 0)
      (blockOf .vs { busy with dir := false, cnt := 14, s1 := 5, s0 := 15, expired := false }
        (cw := 4) (ovf := .saturate)) =
      same { busy with
        dir := false, cnt := 15, s1 := 5, s0 := 15, active := false, expired := true } := by decide

/-! ### Events (95_test_vectors.md section 2.1; its six slots are those of `State.reset`) -/

/-- The state after one event. -/
def after (e : Event) (s : State) : State := stateOf (step { s with inputs := [e] })

/-- What one event records as refused from reset, with the slots and the event list after it. -/
def refusalsOf (e : Event) : List RefusalInfo × Bool × Bool :=
  let t := after e State.reset
  (t.refusals, t.refused, t.slots = State.reset.slots ∧ t.inputs = [])

theorem test_cmd_reserved :
    refusalsOf (.write 0x0004#16 4 0x00020610#32) =
      ([⟨.cmdReserved, 0x0004#16, some 0x00020610#32⟩], true, true) := by decide

theorem test_cmd_undefined_op :
    refusalsOf (.write 0x0004#16 4 0x00000060#32) =
      ([⟨.cmdUndefinedOp, 0x0004#16, some 0x00000060#32⟩], true, true) := by decide

theorem test_cmd_slot_range :
    refusalsOf (.write 0x0004#16 4 0x00000610#32) =
      ([⟨.cmdSlotRange, 0x0004#16, some 0x00000610#32⟩], true, true) := by decide

theorem test_cmd_variant_mismatch :
    refusalsOf (.write 0x0004#16 4 0x00000110#32) =
      ([⟨.cmdVariantMismatch, 0x0004#16, some 0x00000110#32⟩], true, true) := by decide

theorem test_cmd_read :
    refusalsOf (.read 0x0004#16 4) = ([⟨.busAccess, 0x0004#16, none⟩], true, true) := by decide

theorem test_misaligned :
    refusalsOf (.read 0x0002#16 4) = ([⟨.busAccess, 0x0002#16, none⟩], true, true) := by decide

/-- Misaligned and unmapped: misalignment is checked first. -/
theorem test_misaligned_and_unmapped :
    refusalsOf (.read 0x001E#16 4) = ([⟨.busAccess, 0x001E#16, none⟩], true, true) := by decide

theorem test_two_byte_read :
    refusalsOf (.read 0x0000#16 2) = ([⟨.busAccess, 0x0000#16, none⟩], true, true) := by decide

theorem test_unmapped_block :
    refusalsOf (.read 0x001C#16 4) = ([⟨.busUnmapped, 0x001C#16, none⟩], true, true) := by decide

theorem test_unmapped_window :
    refusalsOf (.read 0x011C#16 4) = ([⟨.busUnmapped, 0x011C#16, none⟩], true, true) := by decide

theorem test_unmapped_slot :
    refusalsOf (.read 0x01C0#16 4) = ([⟨.busUnmapped, 0x01C0#16, none⟩], true, true) := by decide

theorem test_cnt_write :
    refusalsOf (.write 0x0104#16 4 5#32) = ([⟨.busAccess, 0x0104#16, some 5#32⟩], true, true) := by
  decide

theorem test_info_write :
    refusalsOf (.write 0x0018#16 4 5#32) = ([⟨.busAccess, 0x0018#16, some 5#32⟩], true, true) := by
  decide

theorem test_info_read : (after (.read 0x0018#16 4) State.reset).rdata = some 6#32 := by decide

theorem test_ctrl_after_reset : (after (.read 0x0000#16 4) State.reset).rdata = some 0#32 := by decide

/-- TIE = 1: SP.SETI 0 is a fault with its word. -/
theorem test_unexcluded :
    (after (.write 0x0004#16 4 0x00010010#32) { State.reset with tie := true }).faults =
      [⟨.unexcluded, 0x00010010#32⟩] := by decide

/-- R147 before R213: the slot's variant is checked before the exclusion. -/
theorem test_mismatch_before_unexcluded :
    (let t := after (.write 0x0004#16 4 0x00010110#32) { State.reset with tie := true }
     (t.faults, t.refusals)) =
      ([], [⟨.cmdVariantMismatch, 0x0004#16, some 0x00010110#32⟩]) := by decide

/-- TIE = 0: a TICK is held, and reads as CTRL = 2. -/
theorem test_tick_held :
    (let t := after .tick State.reset
     (t.lostTicks, t.slots, (after (.read 0x0000#16 4) t).rdata)) =
      (0, State.reset.slots, some 2#32) := by decide

/-- TIE = 0: a second TICK is lost. -/
theorem test_tick_lost :
    (let t := after .tick (after .tick State.reset)
     (t.lostTicks, (after (.read 0x0000#16 4) t).rdata)) = (1, some 2#32) := by decide

/-- TIE = 0, TPEND = 1: `WR CTRL, 1` dispatches once (FR slot 5 goes from 0 to 255). -/
theorem test_enable_dispatches :
    (let t := after (.write 0x0000#16 4 1#32) (after .tick State.reset)
     (t.tie, t.tpend, t.slots)) =
      (true, false, State.reset.slots.set 5 { cnt := 255 }) := by decide

theorem test_ctrl_tpend_is_read_only :
    (let t := after (.write 0x0000#16 4 3#32) { State.reset with tie := true }
     (t.tie, t.tpend)) = (true, false) := by decide

theorem test_ctrl_reserved_bits :
    (let t := after (.write 0x0000#16 4 0xFFFFFFFC#32) { State.reset with tie := true }
     (t.tie, t.tpend)) = (false, false) := by decide

/-- A TICK with TIE = 1: V1, tick 1. -/
theorem test_tick_dispatches :
    (after .tick { blockOf .sp { active := true, cnt := 3 } with tie := true }).slots =
      [{ active := true, cnt := 2 }] := by decide

/-- The STAT table of 95 section 2.1. -/
theorem test_stat_words :
    statWord .sp {} = 0x1000#32 ∧ statWord .sp { active := true, cnt := 3 } = 0x1001#32 ∧
      statWord .sp { expired := true } = 0x1002#32 ∧
      statWord .fb { active := true, dir := true, expired := true } = 0x200B#32 ∧
      statWord .ct { active := true, tickf := true } = 0x4005#32 ∧ statWord .fr {} = 0x6001#32 ∧
      statWord .ac { active := true, state := true, tickf := true } = 0x7015#32 ∧
      statWord .as { susp := true, state := true } = 0x8050#32 ∧
      statWord .bgo { active := true, phase := true, out := true, tickf := true } = 0xA0A5#32 ∧
      statWord .bgo { phase := true, out := true } = 0xA0A0#32 := by decide

/-- A STAT write of all ones clears the variant's flag and nothing else (40 R214). -/
theorem test_stat_write :
    (after (.write 0x0100#16 4 0xFFFFFFFF#32) (blockOf .as busy)).slots =
        [{ busy with expired := false }] ∧
      (after (.write 0x0100#16 4 0xFFFFFFFF#32) (blockOf .bgo busy)).slots =
        [{ busy with tickf := false }] ∧
      (after (.write 0x0100#16 4 0xFFFFFFF9#32) (blockOf .as busy)).slots = [busy] := by decide

/-- The counter, setting and REM words of a BGO slot, and K of a CP slot (10 R66). -/
theorem test_slot_registers :
    (after (.read 0x0104#16 4) (blockOf .bgo busy)).rdata = some 9#32 ∧
      (after (.read 0x0108#16 4) (blockOf .bgo busy)).rdata = some 20#32 ∧
      (after (.read 0x010C#16 4) (blockOf .bgo busy)).rdata = some 30#32 ∧
      (after (.read 0x0110#16 4) (blockOf .bgo busy)).rdata = some 40#32 ∧
      (after (.read 0x0114#16 4) (blockOf .bgo busy)).rdata = some 50#32 ∧
      (after (.read 0x0118#16 4) (blockOf .bgo busy)).rdata = some 7#32 ∧
      (after (.read 0x0108#16 4) (blockOf .cp busy (k := 5))).rdata = some 5#32 ∧
      (after (.read 0x0108#16 4) (blockOf .sp busy)).rdata = some 0#32 := by decide

/-- Each ARG at its own offset (20 R101). -/
theorem test_arg_write :
    (let t := after (.write 0x0010#16 4 0xDEADBEEF#32) State.reset
     (t.arg0, t.arg1, t.arg2, t.arg3)) = (0#32, 0#32, 0xDEADBEEF#32, 0#32) := by decide

/-- Slot 5 of `State.reset` is FR, so its STAT reads 0x6001 from the start. -/
theorem test_stat_of_slot_5 : (after (.read 0x01A0#16 4) State.reset).rdata = some 0x6001#32 := by
  decide

/-- No event: nothing happens (40 R200). -/
theorem test_no_event : stateOf (step State.reset) = State.reset := by decide

/-- The word set by `withFetchWord` runs in the very next step: SP.SET 0, and FB.REVIVE 9 on a slot
the parameters did not have. -/
theorem test_withFetchWord :
    (stateOf (step (State.reset.withFetchWord 32 0x00000010))).slots =
        State.reset.slots.set 0 { active := true } ∧
      (stateOf (step (State.reset.withFetchWord 32 0x00000926))).slots[9]? =
        some { active := true, dir := true } ∧
      (stateOf (step (State.reset.withFetchWord 32 0x00000926))).refused = false := by decide

/-- 30 R151: `SP.SET 0, 3` is the write of ARG0, then the command word. -/
theorem test_pseudoLine :
    pseudoLine (.spSet 0) (some 3#32) =
      [.write 0x0008#16 4 3#32, .write 0x0004#16 4 0x00000010#32] := by decide

/-! ### Witnesses: concrete data that meet the hypotheses of each obligation -/

/-- The one slot of `blockOf`, as the statements name a slot. -/
theorem slotIs_blockOf (v : Variant) (r : Slot) (a0 a1 a2 a3 : Word) (k cw : Nat)
    (ovf : FwdOverflow) :
    SlotIs (blockOf v r a0 a1 a2 a3 k cw ovf) 0 v { vt := v, cw := cw, k := k } r :=
  ⟨rfl, rfl, rfl⟩

/-- A one-slot block with legal parameters, no fault and a slot that meets 10 R64 meets the
invariant. -/
theorem inv_blockOf {v : Variant} {r : Slot} {e : List Event}
    (h : SlotInv True { vt := v, cw := 8 } r) :
    ({ blockOf v r with tie := true, inputs := e } : State).Inv where
  cfg_wellFormed := by
    refine ⟨Nat.le_refl 1, (by decide : 1 ≤ 256), ?_, Nat.zero_lt_one⟩
    intro c hc
    simp only [blockOf, State.resetFor, List.mem_singleton] at hc
    subst hc
    exact ⟨(by decide : 1 ≤ 8), (by decide : 8 ≤ 32), (by decide : 0 < 2 ^ 8), (by decide : 0 < 2 ^ 8)⟩
  slots_length := rfl
  pending_excluded := fun hp => by cases hp
  slot_inv := fun i c r' hc hr => by
    match i with
    | 0 => cases hc; cases hr; exact ⟨h.1, fun _ => h.2 trivial⟩
    | i + 1 => cases hc

theorem witness_EncodeOfDecodeIsTheWord : decode 0x000012A0#32 = .ok (.bgoSet 0x12) := by decide

theorem witness_StepRunsTheDecodedCommand :
    (State.reset.withFetchWord 32 0x00000010).inputs = [.write 0x0004#16 4 0x00000010#32] ∧
      decode 0x00000010#32 = .ok (.spSet 0) := by decide

theorem witness_ParametersNeverChange :
    (∃ t, step { State.reset with inputs := [.tick] } = .next t) ∧
      ∃ t, exec (.spSet 0) State.reset = .next t := ⟨⟨_, rfl⟩, ⟨_, rfl⟩⟩

/-- An armed forward FB slot one step from its setting, a TICK waiting under TIE = 1. -/
theorem witness_EveryStepKeepsTheInvariant :
    ({ blockOf .fb { active := true, cnt := 4, s0 := 5 } with tie := true, inputs := [.tick] } :
        State).Inv ∧
      ∃ t, step { blockOf .fb { active := true, cnt := 4, s0 := 5 } with
        tie := true, inputs := [.tick] } = .next t :=
  ⟨inv_blockOf (by decide), ⟨_, rfl⟩⟩

theorem witness_InvariantHoldsAfterReset : Config.reference.wellFormed := by decide

/-- A tick that becomes pending, and a CTRL write that takes TIE from 0 to 1. -/
theorem witness_PendingTickImpliesExclusion :
    (∃ t, step { State.reset with inputs := [.tick] } = .next t ∧ t.tpend = true) ∧
      ∃ t, step { State.reset with inputs := [.write 0x0000#16 4 1#32] } = .next t ∧
        State.reset.tie = false ∧ t.tie = true :=
  ⟨⟨_, rfl, rfl⟩, ⟨_, rfl, rfl, rfl⟩⟩

theorem witness_ModelRecordsAreNeverCleared :
    ∃ t, step { State.reset with refused := true, inputs := [.tick] } = .next t := ⟨_, rfl⟩

/-- One state for each of the three cases of R202. -/
theorem witness_TickDispatchesLatchesOrIsLost :
    (let s := { State.reset with tie := true, inputs := [Event.tick] }
     s.inputs = .tick :: [] ∧ s.tie = true) ∧
      (let s := { State.reset with inputs := [Event.tick] }
       s.inputs = .tick :: [] ∧ s.tie = false ∧ s.tpend = false) ∧
      (let s := { State.reset with tpend := true, inputs := [Event.tick] }
       s.inputs = .tick :: [] ∧ s.tie = false ∧ s.tpend = true) := by decide

/-- The last slot of `State.reset`. -/
theorem witness_DispatchRunsEveryTransitionOnce :
    State.reset.cfg.slots[5]? = some { vt := .fr, cw := 8, k := 3 } ∧
      State.reset.slots[5]? = some ({} : Slot) := by decide

theorem witness_DispatchOrderIsNotObservable :
    [3, 1, 5, 0, 4, 2].Perm (List.range State.reset.cfg.nSlots) := by decide

/-- One state for each of the three cases of R206. -/
theorem witness_CtrlWriteSetsTieAndDispatchesAHeldTick :
    (let s := { State.reset with tpend := true, inputs := [Event.write 0x0000#16 4 1#32] }
     s.inputs = .write 0x0000#16 4 1#32 :: [] ∧ (1#32).getLsbD 0 = true ∧ s.tpend = true) ∧
      (let s := { State.reset with inputs := [Event.write 0x0000#16 4 3#32] }
       s.inputs = .write 0x0000#16 4 3#32 :: [] ∧ (3#32).getLsbD 0 = true ∧ s.tpend = false) ∧
      (let s := { State.reset with inputs := [Event.write 0x0000#16 4 2#32] }
       s.inputs = .write 0x0000#16 4 2#32 :: [] ∧ (2#32).getLsbD 0 = false) := by decide

/-- STAT of slot 0 at offset 0x0100. -/
theorem witness_StatWriteClearsOnlyTheFlagsWritten :
    (let s := { blockOf .as busy with inputs := [Event.write 0x0100#16 4 6#32] }
     SlotIs s 0 .as { vt := .as, cw := 8 } busy ∧
      s.inputs = .write (BitVec.ofNat 16 (0x0100 + 0x20 * (0 : SlotIdx).toNat)) 4 6#32 :: []) :=
  ⟨⟨rfl, rfl, rfl⟩, rfl⟩

/-- A write and a read of each argument register. -/
theorem witness_ArgRegistersAreWrittenAndReadBack :
    (let s := fun e => { State.reset with inputs := [e] }
     (s (.write 0x0008#16 4 7#32)).inputs = .write 0x0008#16 4 7#32 :: [] ∧
      (s (.write 0x000C#16 4 7#32)).inputs = .write 0x000C#16 4 7#32 :: [] ∧
      (s (.write 0x0010#16 4 7#32)).inputs = .write 0x0010#16 4 7#32 :: [] ∧
      (s (.write 0x0014#16 4 7#32)).inputs = .write 0x0014#16 4 7#32 :: [] ∧
      (s (.read 0x0008#16 4)).inputs = .read 0x0008#16 4 :: [] ∧
      (s (.read 0x000C#16 4)).inputs = .read 0x000C#16 4 :: [] ∧
      (s (.read 0x0010#16 4)).inputs = .read 0x0010#16 4 :: [] ∧
      (s (.read 0x0014#16 4)).inputs = .read 0x0014#16 4 :: []) := by decide

/-- An admitted read with the same read after it, and a refused one. -/
theorem witness_ReadsHaveNoSideEffect :
    (∃ t t', step { State.reset with inputs := [.read 0x0018#16 4, .read 0x0018#16 4] } = .next t ∧
        step t = .next t') ∧
      ∃ t, step { State.reset with inputs := [.read 0x0004#16 4] } = .next t :=
  ⟨⟨_, _, rfl, rfl⟩, ⟨_, rfl⟩⟩

/-- The largest block, 256 slots. -/
theorem witness_CtrlAndInfoReads :
    (let cfg : Config :=
       { Config.reference with slots := List.replicate 256 { vt := .sp, cw := 8 } }
     let s := { State.resetFor cfg with inputs := [Event.read 0x0018#16 4] }
     s.cfg.nSlots ≤ 256 ∧ s.inputs = .read 0x0018#16 4 :: []) ∧
      ({ State.reset with inputs := [Event.read 0x0000#16 4] } : State).inputs =
        .read 0x0000#16 4 :: [] := by
  refine ⟨⟨?_, rfl⟩, rfl⟩
  simp only [State.resetFor, Config.nSlots, List.length_replicate]
  exact Nat.le_refl 256

theorem witness_StatReadLayout :
    (let s := { blockOf .bgo busy with inputs := [Event.read 0x0100#16 4] }
     SlotIs s 0 .bgo { vt := .bgo, cw := 8 } busy ∧
      s.inputs = .read (BitVec.ofNat 16 (0x0100 + 0x20 * (0 : SlotIdx).toNat)) 4 :: []) :=
  ⟨⟨rfl, rfl, rfl⟩, rfl⟩

/-- For each of the six offsets a value that meets the six premises, on a BGO slot; at 0x08 also on
a CP slot (K) and an SP slot (0). -/
theorem witness_CounterSettingAndRemRegisters :
    SlotIs (blockOf .bgo busy) 0 .bgo { vt := .bgo, cw := 8 } busy ∧
      (∀ p ∈ [(0x04, 9#32), (0x08, 20#32), (0x0C, 30#32), (0x10, 40#32), (0x14, 50#32),
          (0x18, 7#32)],
        (p.1 = 0x04 → p.2 = BitVec.ofNat 32 busy.cnt) ∧
        (p.1 = 0x08 → p.2 = BitVec.ofNat 32 busy.s0) ∧
        (p.1 = 0x0C → p.2 = BitVec.ofNat 32 busy.s1) ∧
        (p.1 = 0x10 → p.2 = BitVec.ofNat 32 busy.s2) ∧
        (p.1 = 0x14 → p.2 = BitVec.ofNat 32 busy.s3) ∧
        (p.1 = 0x18 → p.2 = BitVec.ofNat 32 busy.rem) ∧
        (p.1 = 0x04 ∨ p.1 = 0x08 ∨ p.1 = 0x0C ∨ p.1 = 0x10 ∨ p.1 = 0x14 ∨ p.1 = 0x18)) ∧
      SlotIs (blockOf .cp busy (k := 5)) 0 .cp { vt := .cp, cw := 8, k := 5 } busy ∧
      SlotIs (blockOf .sp busy) 0 .sp { vt := .sp, cw := 8 } busy :=
  ⟨⟨rfl, rfl, rfl⟩, by decide, ⟨rfl, rfl, rfl⟩, ⟨rfl, rfl, rfl⟩⟩

/-- Boundary accesses of each clause on the six slots of `State.reset`: wrong size, misaligned, both
ends of the block gap, the first offset after the last window, the hole of the first and of the
last window, the end of the window area and of the space. -/
theorem witness_BadAccessesAreRefusedInOrder :
    ∀ p ∈ [(0x0000#16, 2, Refusal.busAccess), (0x0002#16, 4, .busAccess), (0x001E#16, 4, .busAccess),
        (0x001C#16, 4, .busUnmapped), (0x00FC#16, 4, .busUnmapped), (0x01C0#16, 4, .busUnmapped),
        (0x011C#16, 4, .busUnmapped), (0x01BC#16, 4, .busUnmapped), (0x2100#16, 4, .busUnmapped),
        (0xFFFC#16, 4, .busUnmapped)],
      if p.2.1 ≠ 4 ∨ (p.1 : Offset).toNat % 4 ≠ 0 then p.2.2 = .busAccess
      else if (0x001C ≤ p.1.toNat ∧ p.1.toNat < 0x0100) ∨
          0x0100 + 0x20 * State.reset.cfg.nSlots ≤ p.1.toNat ∨ 0x2100 ≤ p.1.toNat ∨
          (0x0100 ≤ p.1.toNat ∧ p.1.toNat % 0x20 = 0x1C) then p.2.2 = .busUnmapped
      else False := by decide

/-- A word for each of the four refusals, the first being both reserved and out of range. -/
theorem witness_CommandRefusalsInOrder :
    (0x00020610#32 : Word).extractLsb' 17 15 ≠ 0#15 ∧
      ((0x000000B0#32 : Word).extractLsb' 17 15 = 0#15 ∧ ∀ i, encode i ≠ 0x000000B0#32) ∧
      (encode (.spSet 6) = 0x00000610#32 ∧ State.reset.cfg.nSlots ≤ (Instr.spSet 6).slot.toNat) ∧
      (encode (.spSet 1) = 0x00000110#32 ∧
        State.reset.cfg.slots[(Instr.spSet 1).slot.toNat]? = some { vt := .ct, cw := 8 } ∧
        Variant.ct ≠ (Instr.spSet 1).variant) := by
  refine ⟨by decide, ⟨by decide, ?_⟩, by decide, by decide⟩
  intro i h
  have hv := (encode_fields i).2.2.2.1
  rw [h] at hv
  revert hv
  cases i.variant <;> decide

theorem witness_ExcludedFormWithoutExclusionFaults :
    SlotIs { blockOf .sp busy with tie := true } (Instr.spSetI 0).slot (Instr.spSetI 0).variant
        { vt := .sp, cw := 8 } busy ∧
      (Instr.spSetI 0).excluded = true ∧ InRange { vt := .sp, cw := 8 } busy :=
  ⟨⟨rfl, rfl, rfl⟩, by decide, by decide⟩

/-- The FR slot of `Config.reference`, and an FR slot with a counter of its own. -/
theorem witness_ResetState :
    (Config.reference.slots[5]? = some { vt := .fr, cw := 8, k := 3 } ∧
      (State.resetFor Config.reference).slots[5]? = some ({} : Slot)) ∧
      (State.resetFor { Config.reference with
        slots := [{ vt := .fr, cw := 8, frInit := 9 }] }).slots[0]? = some { cnt := 9 } := by decide

/-- An event that is no write of ARG0, among them a write of ARG1. -/
theorem witness_ArgRegistersChangeOnlyByHostWrites :
    (∃ t, exec (.spSet 0) State.reset = .next t) ∧
      (∃ t, step { State.reset with inputs := [.write 0x000C#16 4 7#32] } = .next t) ∧
      ∀ v, Event.write 0x000C#16 4 7#32 ≠
        .write (BitVec.ofNat 16 (0x0008 + 4 * (0 : Fin 4).val)) 4 v :=
  ⟨⟨_, rfl⟩, ⟨_, rfl⟩, fun v h => by cases h⟩

/-- Two blocks that agree on slot 0 and differ on slot 1. -/
theorem witness_SlotsAreIndependent :
    (∃ t, exec (.spSet 0) State.reset = .next t ∧ 1 ≠ (Instr.spSet 0).slot.toNat) ∧
      (let s' := State.reset.setSlot 1 busy
       State.reset.cfg = s'.cfg ∧ State.reset.tie = s'.tie ∧ (∀ k, State.reset.arg k = s'.arg k) ∧
        State.reset.freeCount = s'.freeCount ∧
        State.reset.slots[(Instr.spSet 0).slot.toNat]? = s'.slots[(Instr.spSet 0).slot.toNat]? ∧
        State.reset ≠ s' ∧ ∃ t', exec (.spSet 0) s' = .next t') :=
  ⟨⟨_, rfl, by decide⟩, by decide, by decide, by decide, by decide, by decide, by decide, ⟨_, rfl⟩⟩

theorem witness_DispatchNeverClearsAFlag :
    (blockOf .bg busy).slots[0]? = some busy ∧
      (dispatch (blockOf .bg busy)).slots[0]? = some { busy with cnt := 8 } := by decide

/-- One command of each of the operations named; FR.RESET is not among them. -/
theorem witness_StopResetClearChangeReviveSuspendKeepTheCounter :
    (∀ i ∈ [Instr.spStop 0, .spReset 0, .spClear 0, .spStopI 0],
        (i.op = .stop ∨ (i.op = .reset ∧ i.variant ≠ .fr) ∨ i.op = .clear ∨ i.op = .chgset ∨
          i.op = .revive ∨ i.op = .suspend ∨ i.op = .resume) ∧
        (blockOf .sp busy).tie = false) ∧
      (∃ t, exec (.spStop 0) (blockOf .sp busy) = .next t ∧
        t.slots[0]? = some { busy with active := false, expired := false }) ∧
      (Instr.fbChgset 0).op = .chgset ∧ (Instr.fbRevive 0).op = .revive ∧
      (Instr.acSuspend 0).op = .suspend ∧ (Instr.acResume 0).op = .resume :=
  ⟨by decide, ⟨_, rfl, by decide⟩, by decide, by decide, by decide, by decide⟩

theorem witness_StepCommandIsTheDispatchOfOneSlot :
    (Instr.spStep 0).op = .step ∧ (Instr.spStepI 0).op = .step ∧
      SlotIs (blockOf .sp busy) (Instr.spStepI 0).slot (Instr.spStepI 0).variant
        { vt := .sp, cw := 8 } busy ∧
      (blockOf .sp busy).tie = false :=
  ⟨by decide, by decide, ⟨rfl, rfl, rfl⟩, rfl⟩

theorem witness_OneShotStopAndResetDisarm :
    SlotIs (blockOf .sp busy) 0 .sp { vt := .sp, cw := 8 } busy ∧
        (blockOf .sp busy).tie = false ∧
      SlotIs (blockOf .fb busy) 0 .fb { vt := .fb, cw := 8 } busy ∧
        (blockOf .fb busy).tie = false ∧
      SlotIs (blockOf .vs busy) 0 .vs { vt := .vs, cw := 8 } busy ∧
        (blockOf .vs busy).tie = false :=
  ⟨slotIs_blockOf .., rfl, slotIs_blockOf .., rfl, slotIs_blockOf .., rfl⟩

theorem witness_RepeatingStopAndResetDisarm :
    SlotIs (blockOf .ct busy) 0 .ct { vt := .ct, cw := 8 } busy ∧
        (blockOf .ct busy).tie = false ∧
      SlotIs (blockOf .cp busy) 0 .cp { vt := .cp, cw := 8 } busy ∧
        (blockOf .cp busy).tie = false ∧
      SlotIs (blockOf .bg busy) 0 .bg { vt := .bg, cw := 8 } busy ∧
        (blockOf .bg busy).tie = false ∧
      SlotIs (blockOf .bgo busy) 0 .bgo { vt := .bgo, cw := 8 } busy ∧
        (blockOf .bgo busy).tie = false :=
  ⟨slotIs_blockOf .., rfl, slotIs_blockOf .., rfl, slotIs_blockOf .., rfl, slotIs_blockOf .., rfl⟩

theorem witness_AsymmetricStopAndResetDisarm :
    SlotIs (blockOf .ac busy) 0 .ac { vt := .ac, cw := 8 } busy ∧
        (blockOf .ac busy).tie = false ∧
      SlotIs (blockOf .as busy) 0 .as { vt := .as, cw := 8 } busy ∧
        (blockOf .as busy).tie = false :=
  ⟨slotIs_blockOf .., rfl, slotIs_blockOf .., rfl⟩

theorem witness_ClearOfOneShotsClearsExpired :
    SlotIs (blockOf .sp busy) 0 .sp { vt := .sp, cw := 8 } busy ∧
        (blockOf .sp busy).tie = false ∧
      SlotIs (blockOf .fb busy) 0 .fb { vt := .fb, cw := 8 } busy ∧
        (blockOf .fb busy).tie = false ∧
      SlotIs (blockOf .vs busy) 0 .vs { vt := .vs, cw := 8 } busy ∧
        (blockOf .vs busy).tie = false ∧
      SlotIs (blockOf .as busy) 0 .as { vt := .as, cw := 8 } busy ∧
        (blockOf .as busy).tie = false :=
  ⟨slotIs_blockOf .., rfl, slotIs_blockOf .., rfl, slotIs_blockOf .., rfl, slotIs_blockOf .., rfl⟩

theorem witness_ClearOfRepeatersClearsTickf :
    SlotIs (blockOf .ct busy) 0 .ct { vt := .ct, cw := 8 } busy ∧
        (blockOf .ct busy).tie = false ∧
      SlotIs (blockOf .cp busy) 0 .cp { vt := .cp, cw := 8 } busy ∧
        (blockOf .cp busy).tie = false ∧
      SlotIs (blockOf .fr busy) 0 .fr { vt := .fr, cw := 8 } busy ∧
        (blockOf .fr busy).tie = false ∧
      SlotIs (blockOf .ac busy) 0 .ac { vt := .ac, cw := 8 } busy ∧
        (blockOf .ac busy).tie = false ∧
      SlotIs (blockOf .bg busy) 0 .bg { vt := .bg, cw := 8 } busy ∧
        (blockOf .bg busy).tie = false ∧
      SlotIs (blockOf .bgo busy) 0 .bgo { vt := .bgo, cw := 8 } busy ∧
        (blockOf .bgo busy).tie = false :=
  ⟨slotIs_blockOf .., rfl, slotIs_blockOf .., rfl, slotIs_blockOf .., rfl, slotIs_blockOf .., rfl, slotIs_blockOf .., rfl, slotIs_blockOf .., rfl⟩

theorem witness_SuspendAndResume :
    SlotIs (blockOf .ac busy) 0 .ac { vt := .ac, cw := 8 } busy ∧
        (blockOf .ac busy).tie = false ∧
      SlotIs (blockOf .as busy) 0 .as { vt := .as, cw := 8 } busy ∧
        (blockOf .as busy).tie = false :=
  ⟨slotIs_blockOf .., rfl, slotIs_blockOf .., rfl⟩

theorem witness_ReviveRearmsBackward :
    SlotIs (blockOf .fb busy) 0 .fb { vt := .fb, cw := 8 } busy ∧
        (blockOf .fb busy).tie = false ∧
      SlotIs (blockOf .vs busy) 0 .vs { vt := .vs, cw := 8 } busy ∧
        (blockOf .vs busy).tie = false :=
  ⟨slotIs_blockOf .., rfl, slotIs_blockOf .., rfl⟩

theorem witness_ThresholdChangeReevaluates :
    SlotIs (blockOf .fb busy) 0 .fb { vt := .fb, cw := 8 } busy ∧
        (blockOf .fb busy).tie = false ∧
      SlotIs (blockOf .vs busy) 0 .vs { vt := .vs, cw := 8 } busy ∧
        (blockOf .vs busy).tie = false :=
  ⟨slotIs_blockOf .., rfl, slotIs_blockOf .., rfl⟩

theorem witness_PeriodAndStepChangesWriteOneSetting :
    SlotIs (blockOf .ct busy) 0 .ct { vt := .ct, cw := 8 } busy ∧
        (blockOf .ct busy).tie = false ∧
      SlotIs (blockOf .vs busy) 0 .vs { vt := .vs, cw := 8 } busy ∧
        (blockOf .vs busy).tie = false :=
  ⟨slotIs_blockOf .., rfl, slotIs_blockOf .., rfl⟩

theorem witness_AcChangeWritesLengthsAndForcesState :
    SlotIs (blockOf .ac busy) 0 .ac { vt := .ac, cw := 8 } busy ∧
        (blockOf .ac busy).tie = false :=
  ⟨slotIs_blockOf .., rfl⟩

theorem witness_SpSetArms :
    SlotIs (blockOf .sp busy) 0 .sp { vt := .sp, cw := 8 } busy ∧
        (blockOf .sp busy).tie = false :=
  ⟨slotIs_blockOf .., rfl⟩

theorem witness_FbSetArms :
    SlotIs (blockOf .fb busy) 0 .fb { vt := .fb, cw := 8 } busy ∧
        (blockOf .fb busy).tie = false :=
  ⟨slotIs_blockOf .., rfl⟩

theorem witness_VsSetArms :
    SlotIs (blockOf .vs busy) 0 .vs { vt := .vs, cw := 8 } busy ∧
        (blockOf .vs busy).tie = false :=
  ⟨slotIs_blockOf .., rfl⟩

theorem witness_ContinuousSetAndFrResetLoadThePeriod :
    SlotIs (blockOf .ct busy) 0 .ct { vt := .ct, cw := 8 } busy ∧
        (blockOf .ct busy).tie = false ∧
      SlotIs (blockOf .cp busy) 0 .cp { vt := .cp, cw := 8 } busy ∧
        (blockOf .cp busy).tie = false ∧
      SlotIs (blockOf .fr busy) 0 .fr { vt := .fr, cw := 8 } busy ∧
        (blockOf .fr busy).tie = false :=
  ⟨slotIs_blockOf .., rfl, slotIs_blockOf .., rfl, slotIs_blockOf .., rfl⟩

theorem witness_AcSetArmsHigh :
    SlotIs (blockOf .ac busy) 0 .ac { vt := .ac, cw := 8 } busy ∧
        (blockOf .ac busy).tie = false :=
  ⟨slotIs_blockOf .., rfl⟩

theorem witness_AsSetArmsFirstOrSecondOrNeither :
    SlotIs (blockOf .as busy) 0 .as { vt := .as, cw := 8 } busy ∧
        (blockOf .as busy).tie = false :=
  ⟨slotIs_blockOf .., rfl⟩

theorem witness_BurstSetStartsThePattern :
    SlotIs (blockOf .bg busy) 0 .bg { vt := .bg, cw := 8 } busy ∧
        (blockOf .bg busy).tie = false ∧
      SlotIs (blockOf .bgo busy) 0 .bgo { vt := .bgo, cw := 8 } busy ∧
        (blockOf .bgo busy).tie = false :=
  ⟨slotIs_blockOf .., rfl, slotIs_blockOf .., rfl⟩

theorem witness_SpStepCountsDownAndExpires :
    SlotIs (blockOf .sp busy) 0 .sp { vt := .sp, cw := 8 } busy ∧
        (blockOf .sp busy).tie = false :=
  ⟨slotIs_blockOf .., rfl⟩

theorem witness_FbStepCountsTowardsItsEnd :
    SlotIs (blockOf .fb busy) 0 .fb { vt := .fb, cw := 8 } busy ∧
        (blockOf .fb busy).tie = false :=
  ⟨slotIs_blockOf .., rfl⟩

/-- A forward sum of M - 1 and of M, under WRAP and under SATURATE, and a backward slot. -/
theorem witness_VsStepMovesByItsSteps :
    (let r := { busy with dir := false, cnt := 250, s1 := 5, s0 := 255 }
     SlotIs (blockOf .vs r) 0 .vs { vt := .vs, cw := 8 } r ∧
      255 = (if r.cnt + r.s1 ≤ 2 ^ 8 - 1 then r.cnt + r.s1 else r.cnt + r.s1 - 2 ^ 8)) ∧
      (let r := { busy with dir := false, cnt := 250, s1 := 6, s0 := 255 }
       SlotIs (blockOf .vs r) 0 .vs { vt := .vs, cw := 8 } r ∧
        0 = (if r.cnt + r.s1 ≤ 2 ^ 8 - 1 then r.cnt + r.s1
          else if (blockOf .vs r).cfg.vsFwdOvf = .wrap then r.cnt + r.s1 - 2 ^ 8 else 2 ^ 8 - 1) ∧
        255 = (if r.cnt + r.s1 ≤ 2 ^ 8 - 1 then r.cnt + r.s1
          else if (blockOf .vs r (ovf := .saturate)).cfg.vsFwdOvf = .wrap then
            r.cnt + r.s1 - 2 ^ 8 else 2 ^ 8 - 1)) ∧
      SlotIs (blockOf .vs busy) 0 .vs { vt := .vs, cw := 8 } busy ∧
      (blockOf .vs busy).tie = false :=
  ⟨⟨⟨rfl, rfl, rfl⟩, by decide⟩, ⟨⟨rfl, rfl, rfl⟩, by decide, by decide⟩, ⟨rfl, rfl, rfl⟩, rfl⟩

theorem witness_ContinuousStepsReloadAtZero :
    SlotIs (blockOf .ct busy) 0 .ct { vt := .ct, cw := 8 } busy ∧
        (blockOf .ct busy).tie = false ∧
      SlotIs (blockOf .cp busy) 0 .cp { vt := .cp, cw := 8 } busy ∧
        (blockOf .cp busy).tie = false ∧
      SlotIs (blockOf .fr busy) 0 .fr { vt := .fr, cw := 8 } busy ∧
        (blockOf .fr busy).tie = false :=
  ⟨slotIs_blockOf .., rfl, slotIs_blockOf .., rfl, slotIs_blockOf .., rfl⟩

theorem witness_AcStepSwitchesOrSkipsAPhase :
    SlotIs (blockOf .ac busy) 0 .ac { vt := .ac, cw := 8 } busy ∧
        (blockOf .ac busy).tie = false :=
  ⟨slotIs_blockOf .., rfl⟩

theorem witness_AsStepChangesHalfOrExpires :
    SlotIs (blockOf .as busy) 0 .as { vt := .as, cw := 8 } busy ∧
        (blockOf .as busy).tie = false :=
  ⟨slotIs_blockOf .., rfl⟩

theorem witness_BurstStepsFollowThePattern :
    SlotIs (blockOf .bg busy) 0 .bg { vt := .bg, cw := 8 } busy ∧
        (blockOf .bg busy).tie = false ∧
      SlotIs (blockOf .bgo busy) 0 .bgo { vt := .bgo, cw := 8 } busy ∧
        (blockOf .bgo busy).tie = false :=
  ⟨slotIs_blockOf .., rfl, slotIs_blockOf .., rfl⟩

theorem witness_SpExpiresOnExactlyThePeriodthDispatch :
    (SlotIs (blockOf .sp busy 3#32) 0 .sp { vt := .sp, cw := 8 } busy ∧
        3 = (if (3#32).toNat % 2 ^ 8 = 0 then 2 ^ 8 else (3#32).toNat % 2 ^ 8) ∧
        ∃ t, exec (.spSet 0) (blockOf .sp busy 3#32) = .next t) ∧
      (SlotIs (blockOf .sp busy 0#32) 0 .sp { vt := .sp, cw := 8 } busy ∧
        256 = (if (0#32).toNat % 2 ^ 8 = 0 then 2 ^ 8 else (0#32).toNat % 2 ^ 8) ∧
        ∃ t, exec (.spSet 0) (blockOf .sp busy 0#32) = .next t) :=
  ⟨⟨⟨rfl, rfl, rfl⟩, by decide, ⟨_, rfl⟩⟩,
    ⟨⟨rfl, rfl, rfl⟩, by decide, ⟨_, rfl⟩⟩⟩

theorem witness_FbForwardExpiresOnExactlyTheSettingthDispatch :
    (SlotIs (blockOf .fb busy 5#32 2#32) 0 .fb { vt := .fb, cw := 8 } busy ∧
        (2#32).getLsbD 0 = false ∧ 5 = max ((5#32).toNat % 2 ^ 8) 1 ∧
        ∃ t, exec (.fbSet 0) (blockOf .fb busy 5#32 2#32) = .next t) ∧
      (SlotIs (blockOf .fb busy 0#32) 0 .fb { vt := .fb, cw := 8 } busy ∧
        (0#32).getLsbD 0 = false ∧ 1 = max ((0#32).toNat % 2 ^ 8) 1 ∧
        ∃ t, exec (.fbSet 0) (blockOf .fb busy 0#32) = .next t) :=
  ⟨⟨⟨rfl, rfl, rfl⟩, by decide, by decide, ⟨_, rfl⟩⟩,
    ⟨⟨rfl, rfl, rfl⟩, by decide, by decide, ⟨_, rfl⟩⟩⟩

theorem witness_CtFlagsExactlyEveryPeriod :
    (SlotIs (blockOf .ct busy 4#32) 0 .ct { vt := .ct, cw := 8 } busy ∧
        4 = (if (4#32).toNat % 2 ^ 8 = 0 then 2 ^ 8 else (4#32).toNat % 2 ^ 8) ∧
        ∃ t, exec (.ctSet 0) (blockOf .ct busy 4#32) = .next t) ∧
      (SlotIs (blockOf .ct busy 0#32) 0 .ct { vt := .ct, cw := 8 } busy ∧
        256 = (if (0#32).toNat % 2 ^ 8 = 0 then 2 ^ 8 else (0#32).toNat % 2 ^ 8) ∧
        ∃ t, exec (.ctSet 0) (blockOf .ct busy 0#32) = .next t) :=
  ⟨⟨⟨rfl, rfl, rfl⟩, by decide, ⟨_, rfl⟩⟩,
    ⟨⟨rfl, rfl, rfl⟩, by decide, ⟨_, rfl⟩⟩⟩

theorem witness_AcDutyCycleIsHighThenLow :
    (SlotIs (blockOf .ac busy 2#32 3#32) 0 .ac { vt := .ac, cw := 8 } busy ∧
        2 = (2#32).toNat % 2 ^ 8 ∧ 3 = (3#32).toNat % 2 ^ 8 ∧ 1 ≤ 2 ∧ 1 ≤ 3 ∧
        ∃ t, exec (.acSet 0) (blockOf .ac busy 2#32 3#32) = .next t) :=
  ⟨⟨rfl, rfl, rfl⟩, by decide, by decide, by decide, by decide, ⟨_, rfl⟩⟩

theorem witness_BurstCycleHasPulsesThenGap :
    (SlotIs (blockOf .bg busy 3#32 2#32 1#32 5#32) 0 .bg { vt := .bg, cw := 8 } busy ∧
        3 = (3#32).toNat % 2 ^ 8 ∧ 2 = (2#32).toNat % 2 ^ 8 ∧ 1 = (1#32).toNat % 2 ^ 8 ∧ 5 = (5#32).toNat % 2 ^ 8 ∧
        ∃ t, exec (.bgSet 0) (blockOf .bg busy 3#32 2#32 1#32 5#32) = .next t) ∧
      (SlotIs (blockOf .bgo busy 3#32 2#32 1#32 5#32) 0 .bgo { vt := .bgo, cw := 8 } busy ∧
        1 ≤ 3 ∧ 1 ≤ 2 ∧ 1 ≤ 1 ∧ 1 ≤ 5 ∧
        ∃ t, exec (.bgoSet 0) (blockOf .bgo busy 3#32 2#32 1#32 5#32) = .next t) :=
  ⟨⟨⟨rfl, rfl, rfl⟩, by decide, by decide, by decide, by decide, ⟨_, rfl⟩⟩,
    ⟨⟨rfl, rfl, rfl⟩, by decide, by decide, by decide, by decide, ⟨_, rfl⟩⟩⟩

theorem witness_AsPulseLastsFirstPlusSecond :
    (SlotIs (blockOf .as busy 0#32 5#32 1#32) 0 .as { vt := .as, cw := 8 } busy ∧
        0 = (0#32).toNat % 2 ^ 8 ∧ 5 = (5#32).toNat % 2 ^ 8 ∧ 1 ≤ 0 + 5 ∧
        ∃ t, exec (.asSet 0) (blockOf .as busy 0#32 5#32 1#32) = .next t) ∧
      (SlotIs (blockOf .as busy 3#32 0#32 1#32) 0 .as { vt := .as, cw := 8 } busy ∧
        3 = (3#32).toNat % 2 ^ 8 ∧ 0 = (0#32).toNat % 2 ^ 8 ∧ 1 ≤ 3 + 0 ∧
        ∃ t, exec (.asSet 0) (blockOf .as busy 3#32 0#32 1#32) = .next t) :=
  ⟨⟨⟨rfl, rfl, rfl⟩, by decide, by decide, by decide, ⟨_, rfl⟩⟩,
    ⟨⟨rfl, rfl, rfl⟩, by decide, by decide, by decide, ⟨_, rfl⟩⟩⟩

end Sys2Proof.Tests
end

section
/-! SUPPORT. The invariants of one slot (10 R64) as rules: what an update of a record has to keep, and
that every transition (40 R203) and every command's effect (40 R211) keeps them. -/

namespace Sys2Proof.Machine

/-! ### The arithmetic laws stay below the modulus (00 R13, R15, R17) -/

theorem modulus_pos (c : SlotCfg) : 0 < modulus c := Nat.two_pow_pos c.cw

theorem dec_lt {M : Nat} (hM : 0 < M) (v : Nat) : dec M v < M := Nat.mod_lt _ hM

theorem inc_lt {M : Nat} (hM : 0 < M) (v d : Nat) : inc M v d < M := Nat.mod_lt _ hM

theorem satSub_le (v d : Nat) : satSub v d ≤ v := by
  unfold satSub
  split_ifs
  · exact Nat.sub_le v d
  · exact Nat.zero_le v

theorem vsForward_lt {ovf : FwdOverflow} {M v d : Nat} (hv : v < M) (hd : d < M) :
    vsForward ovf M v d < M := by
  unfold vsForward
  split_ifs
  · omega
  · cases ovf <;> simp only <;> omega

theorem argTrunc_lt (c : SlotCfg) (s : State) (k : Fin 4) : argTrunc c s k < modulus c :=
  Nat.mod_lt _ (modulus_pos c)

theorem one_lt_modulus {c : SlotCfg} (h : c.wellFormed) : 1 < modulus c :=
  Nat.one_lt_two_pow (Nat.ne_of_gt h.1)

/-! ### The ranges (10 R64 item 4) -/

theorem InRange.with_cnt {c : SlotCfg} {r : Slot} (h : InRange c r) {n : Nat} (hn : n < modulus c) :
    InRange c { r with cnt := n } :=
  ⟨hn, h.2⟩

theorem inRange_reachThreshold {c : SlotCfg} {r : Slot} (h : InRange c r) :
    InRange c (reachThreshold r) := by
  unfold reachThreshold
  split_ifs
  · exact h
  · exact h

theorem inRange_recheckThreshold {c : SlotCfg} {r : Slot} (h : InRange c r) :
    InRange c (recheckThreshold r) := by
  unfold recheckThreshold
  split_ifs
  · exact inRange_reachThreshold h
  · exact h

theorem inRange_countdownReload {c : SlotCfg} {r : Slot} {period : Nat} (h : InRange c r)
    (hp : period < modulus c) : InRange c (countdownReload c period r) := by
  unfold countdownReload
  dsimp only
  split_ifs
  · exact h.with_cnt hp
  · exact h.with_cnt (dec_lt (modulus_pos c) _)

theorem inRange_burstChange {c : SlotCfg} {r : Slot} (h : InRange c r) :
    InRange c (burstChange c r) := by
  obtain ⟨-, h0, h1, h2, h3, hrem⟩ := h
  unfold burstChange
  dsimp only
  split_ifs
  · exact ⟨h1, h0, h1, h2, h3, h0⟩
  · exact ⟨h1, h0, h1, h2, h3, hrem⟩
  · exact ⟨h2, h0, h1, h2, h3, dec_lt (modulus_pos c) _⟩
  · exact ⟨h3, h0, h1, h2, h3, dec_lt (modulus_pos c) _⟩

theorem inRange_tSp {c : SlotCfg} {r : Slot} (h : InRange c r) : InRange c (tSp c r) := by
  have hn := h.with_cnt (dec_lt (modulus_pos c) r.cnt)
  unfold tSp
  dsimp only
  split_ifs
  · exact hn
  · exact hn
  · exact h

theorem inRange_tFb {c : SlotCfg} {r : Slot} (h : InRange c r) : InRange c (tFb c r) := by
  unfold tFb
  split_ifs
  · exact inRange_reachThreshold (h.with_cnt (inc_lt (modulus_pos c) _ _))
  · exact h.with_cnt ((satSub_le _ _).trans_lt h.1)
  · exact h

theorem inRange_tVs {ovf : FwdOverflow} {c : SlotCfg} {r : Slot} (h : InRange c r) :
    InRange c (tVs ovf c r) := by
  have ⟨hcnt, _, hs1, _⟩ := h
  unfold tVs
  split_ifs
  · exact inRange_reachThreshold (h.with_cnt (vsForward_lt hcnt hs1))
  · exact h.with_cnt ((satSub_le _ _).trans_lt hcnt)
  · exact h

theorem inRange_tCt {c : SlotCfg} {r : Slot} (h : InRange c r) : InRange c (tCt c r) := by
  unfold tCt
  split_ifs
  · exact inRange_countdownReload h h.2.1
  · exact h

theorem inRange_tCp {c : SlotCfg} {r : Slot} (hk : c.k < modulus c) (h : InRange c r) :
    InRange c (tCp c r) := by
  unfold tCp
  split_ifs
  · exact inRange_countdownReload h hk
  · exact h

theorem acLength_lt {c : SlotCfg} {r : Slot} (h : InRange c r) (level : Bool) :
    acLength r level < modulus c := by
  obtain ⟨-, h0, h1, -⟩ := h
  unfold acLength
  split_ifs
  · exact h0
  · exact h1

theorem inRange_tAc {c : SlotCfg} {r : Slot} (h : InRange c r) : InRange c (tAc c r) := by
  unfold tAc
  dsimp only
  split_ifs
  · exact h.with_cnt (acLength_lt h _)
  · exact h.with_cnt (acLength_lt h _)
  · exact h.with_cnt (dec_lt (modulus_pos c) _)
  · exact h

theorem inRange_tAs {c : SlotCfg} {r : Slot} (h : InRange c r) : InRange c (tAs c r) := by
  have ⟨_, _, hs1, _⟩ := h
  have hn := h.with_cnt (dec_lt (modulus_pos c) r.cnt)
  unfold tAs
  dsimp only
  split_ifs
  · exact h.with_cnt hs1
  · exact hn
  · exact hn
  · exact h

theorem inRange_tBg {c : SlotCfg} {r : Slot} (h : InRange c r) : InRange c (tBg c r) := by
  unfold tBg
  dsimp only
  split_ifs
  · exact inRange_burstChange h
  · exact h.with_cnt (dec_lt (modulus_pos c) _)
  · exact h

theorem inRange_tBgo {c : SlotCfg} {r : Slot} (h : InRange c r) : InRange c (tBgo c r) := by
  unfold tBgo
  dsimp only
  split_ifs
  · exact inRange_burstChange h
  · exact inRange_burstChange h
  · exact h.with_cnt (dec_lt (modulus_pos c) _)
  · exact h

theorem inRange_transition {ovf : FwdOverflow} {c : SlotCfg} {r : Slot} (hc : c.wellFormed)
    (h : InRange c r) : InRange c (transition ovf c r) := by
  have ⟨_, _, hk, _⟩ := hc
  unfold transition
  cases c.vt with
  | sp => exact inRange_tSp h
  | fb => exact inRange_tFb h
  | vs => exact inRange_tVs h
  | ct => exact inRange_tCt h
  | cp => exact inRange_tCp hk h
  | fr => exact inRange_countdownReload h hk
  | ac => exact inRange_tAc h
  | as => exact inRange_tAs h
  | bg => exact inRange_tBg h
  | bgo => exact inRange_tBgo h

theorem inRange_suspendSlot {c : SlotCfg} {r : Slot} (h : InRange c r) :
    InRange c (suspendSlot r) := by
  unfold suspendSlot
  split_ifs
  · exact h
  · exact h

theorem inRange_resumeSlot {c : SlotCfg} {r : Slot} (h : InRange c r) :
    InRange c (resumeSlot r) := by
  unfold resumeSlot
  split_ifs
  · exact h
  · exact h

theorem inRange_asSet {c : SlotCfg} {s : State} {r : Slot} (h : InRange c r) :
    InRange c (asSet c s r) := by
  obtain ⟨hcnt, -, -, hrest⟩ := h
  unfold asSet
  dsimp only
  split_ifs
  · exact ⟨argTrunc_lt c s 0, argTrunc_lt c s 0, argTrunc_lt c s 1, hrest⟩
  · exact ⟨argTrunc_lt c s 1, argTrunc_lt c s 0, argTrunc_lt c s 1, hrest⟩
  · exact ⟨hcnt, argTrunc_lt c s 0, argTrunc_lt c s 1, hrest⟩

theorem inRange_burstSet {c : SlotCfg} {s : State} {r : Slot} (hc : c.wellFormed) :
    InRange c (burstSet c s r) :=
  ⟨one_lt_modulus hc, argTrunc_lt c s 0, argTrunc_lt c s 1, argTrunc_lt c s 2, argTrunc_lt c s 3,
    modulus_pos c⟩

/-- A STEP command's effect is the transition of its slot (40 R218). -/
theorem slotEffect_of_step {i : Instr} {c : SlotCfg} (s : State) (r : Slot) (hop : i.op = .step)
    (hv : c.vt = i.variant) : slotEffect i s c r = transition s.cfg.vsFwdOvf c r := by
  unfold transition
  cases i with
  | spStep | spStepI | fbStep | fbStepI | vsStep | vsStepI | ctStep | ctStepI | cpStep | cpStepI
  | frStep | frStepI | acStep | acStepI | asStep | asStepI | bgStep | bgStepI | bgoStep | bgoStepI =>
    rw [hv]; rfl
  | _ => cases hop

/-- Every command writes truncated arguments, loaded settings or counted values only, so the numbers
stay in their range. -/
theorem inRange_slotEffect {i : Instr} {s : State} {c : SlotCfg} {r : Slot} (hc : c.wellFormed)
    (hv : c.vt = i.variant) (h : InRange c r) : InRange c (slotEffect i s c r) := by
  have ⟨hcnt, hs0, hs1, hs2, hrest⟩ := h
  have ha := argTrunc_lt c s
  cases i with
  | spStep | spStepI | fbStep | fbStepI | vsStep | vsStepI | ctStep | ctStepI | cpStep | cpStepI
  | frStep | frStepI | acStep | acStepI | asStep | asStepI | bgStep | bgStepI | bgoStep | bgoStepI =>
    rw [slotEffect_of_step s r rfl hv]
    exact inRange_transition hc h
  | spSet | spSetI | cpSet | cpSetI | frReset | frResetI => exact h.with_cnt (ha 0)
  | fbSet | fbSetI => exact ⟨modulus_pos c, ha 0, hs1, hs2, hrest⟩
  | vsSet | vsSetI => exact ⟨modulus_pos c, ha 0, ha 2, ha 3, hrest⟩
  | ctSet | ctSetI => exact ⟨ha 0, ha 0, hs1, hs2, hrest⟩
  | acSet | acSetI => exact ⟨ha 0, ha 0, ha 1, hs2, hrest⟩
  | asSet | asSetI => exact inRange_asSet h
  | bgSet | bgSetI | bgoSet | bgoSetI => exact inRange_burstSet (s := s) (r := r) hc
  | fbChgset | fbChgsetI | vsChgset | vsChgsetI =>
    exact inRange_recheckThreshold ⟨hcnt, ha 0, hs1, hs2, hrest⟩
  | vsChgstepf | vsChgstepfI => exact ⟨hcnt, hs0, ha 0, hs2, hrest⟩
  | vsChgstepb | vsChgstepbI => exact ⟨hcnt, hs0, hs1, ha 0, hrest⟩
  | ctChgset | ctChgsetI => exact ⟨hcnt, ha 0, hs1, hs2, hrest⟩
  | acChgset | acChgsetI => exact ⟨hcnt, ha 0, ha 1, hs2, hrest⟩
  | acSuspend | acSuspendI | asSuspend | asSuspendI => exact inRange_suspendSlot h
  | acResume | acResumeI | asResume | asResumeI => exact inRange_resumeSlot h
  | _ => exact h

theorem tornNat_lt {c : SlotCfg} {n : Nat} (f : SlotField) {old : Nat} (h : old < modulus c) :
    tornNat c n f old < modulus c := by
  unfold tornNat
  split_ifs
  · exact Nat.mod_lt _ (modulus_pos c)
  · exact h

theorem inRange_tornSlot {c : SlotCfg} {n : Nat} {r : Slot} (h : InRange c r) :
    InRange c (tornSlot c n r) := by
  obtain ⟨hcnt, h0, h1, h2, h3, hrem⟩ := h
  exact ⟨tornNat_lt .cnt hcnt, tornNat_lt .s0 h0, tornNat_lt .s1 h1, tornNat_lt .s2 h2,
    tornNat_lt .s3 h3, tornNat_lt .rem hrem⟩

/-! ### Items 1 to 3 of 10 R64 -/

/-- Items 1 to 3 of 10 R64, which hold while no fault is recorded. -/
def SlotItems (c : SlotCfg) (r : Slot) : Prop :=
  SuspendedIsInactive c r ∧ OutIsPhase c r ∧ ForwardBelowSetting c r

theorem slotInv_iff {faultFree : Prop} {c : SlotCfg} {r : Slot} :
    SlotInv faultFree c r ↔ InRange c r ∧ (faultFree → SlotItems c r) :=
  Iff.rfl

/-- The variants that items 1 to 3 say something of. -/
def Variant.hasSlotItem : Variant → Bool
  | .fb | .vs | .ac | .as | .bgo => true
  | _ => false

theorem SlotItems.of_variant {c : SlotCfg} {r : Slot} {v : Variant} (hv : c.vt = v)
    (h : Variant.hasSlotItem v = false) : SlotItems c r := by
  subst hv
  refine ⟨?_, ?_, ?_⟩
  · rintro (hvt | hvt) <;> simp [hvt, Variant.hasSlotItem] at h
  · intro hvt; simp [hvt, Variant.hasSlotItem] at h
  · rintro (hvt | hvt) <;> simp [hvt, Variant.hasSlotItem] at h

theorem SlotItems.of_threshold {c : SlotCfg} {r : Slot} {v : Variant} (hv : c.vt = v)
    (hfv : v = .fb ∨ v = .vs)
    (h : r.active = true → r.dir = fwd → r.cnt < r.s0 ∨ (r.cnt = 0 ∧ r.s0 = 0)) :
    SlotItems c r := by
  subst hv
  refine ⟨?_, ?_, fun _ => h⟩
  · rcases hfv with hvt | hvt <;> simp [SuspendedIsInactive, hvt]
  · rcases hfv with hvt | hvt <;> simp [OutIsPhase, hvt]

theorem SlotItems.of_asymmetric {c : SlotCfg} {r : Slot} {v : Variant} (hv : c.vt = v)
    (hav : v = .ac ∨ v = .as) (h : r.susp = true → r.active = false) : SlotItems c r := by
  subst hv
  refine ⟨fun _ => h, ?_, ?_⟩
  · rcases hav with hvt | hvt <;> simp [OutIsPhase, hvt]
  · rcases hav with hvt | hvt <;> simp [ForwardBelowSetting, hvt]

theorem SlotItems.of_bgo {c : SlotCfg} {r : Slot} (hv : c.vt = .bgo) (h : r.out = r.phase) :
    SlotItems c r :=
  ⟨by simp [SuspendedIsInactive, hv], fun _ => h, by simp [ForwardBelowSetting, hv]⟩

/-- A disarmed slot has only its output bit to account for. -/
theorem SlotItems.of_inactive {c : SlotCfg} {r : Slot} (ha : r.active = false)
    (ho : OutIsPhase c r) : SlotItems c r :=
  ⟨fun _ _ => ha, ho, fun _ h => by simp [ha] at h⟩

/-- The threshold test expires an armed forward slot that is not below its setting. -/
theorem reachThreshold_below {r : Slot} (h : (reachThreshold r).active = true) :
    (reachThreshold r).cnt < (reachThreshold r).s0 := by
  unfold reachThreshold at h ⊢
  split_ifs at h ⊢ with hle
  · cases h
  · exact Nat.lt_of_not_le hle

theorem recheckThreshold_below {r : Slot} (ha : (recheckThreshold r).active = true)
    (hd : (recheckThreshold r).dir = fwd) :
    (recheckThreshold r).cnt < (recheckThreshold r).s0 := by
  unfold recheckThreshold at ha hd ⊢
  split_ifs at ha hd ⊢ with harmed
  · exact reachThreshold_below ha
  · simp [ha, hd] at harmed

/-- A counter of 0 is below the setting, or the setting is 0 too. -/
theorem zero_below_setting (n : Nat) : 0 < n ∨ (0 = 0 ∧ n = 0) :=
  (Nat.eq_zero_or_pos n).symm.imp_right fun h => ⟨rfl, h⟩

theorem slotItems_tFb {c : SlotCfg} {r : Slot} (hv : c.vt = .fb) (h : SlotItems c r) :
    SlotItems c (tFb c r) := by
  unfold tFb
  split_ifs with ha hd
  · exact .of_threshold hv (.inl rfl) fun hact _ => .inl (reachThreshold_below hact)
  · exact .of_threshold hv (.inl rfl) fun _ hf => absurd hf hd
  · exact h

theorem slotItems_tVs {ovf : FwdOverflow} {c : SlotCfg} {r : Slot} (hv : c.vt = .vs)
    (h : SlotItems c r) : SlotItems c (tVs ovf c r) := by
  unfold tVs
  split_ifs with ha hd
  · exact .of_threshold hv (.inr rfl) fun hact _ => .inl (reachThreshold_below hact)
  · exact .of_threshold hv (.inr rfl) fun _ hf => absurd hf hd
  · exact h

theorem slotItems_tAc {c : SlotCfg} {r : Slot} (hv : c.vt = .ac) (h : SlotItems c r) :
    SlotItems c (tAc c r) := by
  have hs : r.susp = true → r.active = false := h.1 (.inl hv)
  unfold tAc
  dsimp only
  split_ifs
  · exact .of_asymmetric hv (.inl rfl) hs
  · exact .of_asymmetric hv (.inl rfl) hs
  · exact .of_asymmetric hv (.inl rfl) hs
  · exact h

theorem slotItems_tAs {c : SlotCfg} {r : Slot} (hv : c.vt = .as) (h : SlotItems c r) :
    SlotItems c (tAs c r) := by
  have hs : r.susp = true → r.active = false := h.1 (.inr hv)
  unfold tAs
  dsimp only
  split_ifs
  · exact .of_asymmetric hv (.inr rfl) hs
  · exact .of_asymmetric hv (.inr rfl) fun _ => rfl
  · exact .of_asymmetric hv (.inr rfl) hs
  · exact h

theorem burstChange_phase (c : SlotCfg) (r : Slot) : (burstChange c r).phase = !r.phase := by
  unfold burstChange
  cases hp : r.phase <;> rfl

theorem slotItems_tBgo {c : SlotCfg} {r : Slot} (hv : c.vt = .bgo) (h : SlotItems c r) :
    SlotItems c (tBgo c r) := by
  have hphase : (burstChange c r).phase = !r.phase := burstChange_phase c r
  unfold tBgo
  dsimp only
  split_ifs with ha hn hp
  · exact .of_bgo hv (hphase.trans (congrArg not hp)).symm
  · exact .of_bgo hv (hphase.trans (congrArg not (Bool.eq_true_of_not_eq_false hp))).symm
  · exact .of_bgo hv (h.2.1 hv)
  · exact h

theorem slotItems_transition {ovf : FwdOverflow} {c : SlotCfg} {r : Slot} (h : SlotItems c r) :
    SlotItems c (transition ovf c r) := by
  unfold transition
  cases hv : c.vt with
  | fb => exact slotItems_tFb hv h
  | vs => exact slotItems_tVs hv h
  | ac => exact slotItems_tAc hv h
  | as => exact slotItems_tAs hv h
  | bgo => exact slotItems_tBgo hv h
  | _ => exact .of_variant hv rfl

theorem suspendSlot_suspended {r : Slot} (h : r.susp = true → r.active = false) :
    (suspendSlot r).susp = true → (suspendSlot r).active = false := by
  unfold suspendSlot
  split_ifs
  · exact fun _ => rfl
  · exact h

theorem resumeSlot_suspended {r : Slot} :
    (resumeSlot r).susp = true → (resumeSlot r).active = false := by
  unfold resumeSlot
  split_ifs with hs
  · exact fun h => nomatch h
  · exact fun h => absurd h hs

theorem asSet_susp (c : SlotCfg) (s : State) (r : Slot) : (asSet c s r).susp = false := by
  unfold asSet
  dsimp only
  split_ifs <;> rfl

/-- Every command on a slot of its own variant keeps items 1 to 3 (10 R64). -/
theorem slotItems_slotEffect {i : Instr} {s : State} {c : SlotCfg} {r : Slot}
    (hv : c.vt = i.variant) (h : SlotItems c r) : SlotItems c (slotEffect i s c r) := by
  have ⟨hsusp, hout, _⟩ := h
  cases i with
  | fbStep | fbStepI | vsStep | vsStepI | acStep | acStepI | asStep | asStepI | bgoStep | bgoStepI =>
    rw [slotEffect_of_step s r rfl hv]
    exact slotItems_transition h
  | fbSet | fbSetI => exact .of_threshold hv (.inl rfl) fun _ _ => zero_below_setting _
  | vsSet | vsSetI => exact .of_threshold hv (.inr rfl) fun _ _ => zero_below_setting _
  | fbChgset | fbChgsetI =>
    exact .of_threshold hv (.inl rfl) fun ha hd => .inl (recheckThreshold_below ha hd)
  | vsChgset | vsChgsetI =>
    exact .of_threshold hv (.inr rfl) fun ha hd => .inl (recheckThreshold_below ha hd)
  | fbRevive | fbReviveI => exact .of_threshold hv (.inl rfl) fun _ hd => nomatch hd
  | vsRevive | vsReviveI => exact .of_threshold hv (.inr rfl) fun _ hd => nomatch hd
  | fbStop | fbStopI | fbReset | fbResetI | vsStop | vsStopI | vsReset | vsResetI | acStop | acStopI
  | acReset | acResetI | asStop | asStopI | asReset | asResetI | bgoStop | bgoStopI | bgoReset
  | bgoResetI => exact .of_inactive rfl hout
  | fbClear | fbClearI | vsClear | vsClearI | vsChgstepf | vsChgstepfI | vsChgstepb | vsChgstepbI
  | acClear | acClearI | asClear | asClearI | bgoClear | bgoClearI => exact h
  | acSet | acSetI => exact .of_asymmetric hv (.inl rfl) fun hs => nomatch hs
  | acChgset | acChgsetI => exact .of_asymmetric hv (.inl rfl) (hsusp (.inl hv))
  | asSet | asSetI =>
    exact .of_asymmetric hv (.inr rfl) fun hs => absurd ((asSet_susp c s r).symm.trans hs) nofun
  | acSuspend | acSuspendI =>
    exact .of_asymmetric hv (.inl rfl) (suspendSlot_suspended (hsusp (.inl hv)))
  | asSuspend | asSuspendI =>
    exact .of_asymmetric hv (.inr rfl) (suspendSlot_suspended (hsusp (.inr hv)))
  | acResume | acResumeI => exact .of_asymmetric hv (.inl rfl) resumeSlot_suspended
  | asResume | asResumeI => exact .of_asymmetric hv (.inr rfl) resumeSlot_suspended
  | bgoSet | bgoSetI => exact .of_bgo hv rfl
  | _ => exact .of_variant hv rfl

end Sys2Proof.Machine
end

section
/-! SUPPORT. The state's invariant, parameters, CTRL bits, records and argument registers over a
command, an event and a step, each said once over the outcomes of `EventOutcome`. -/

namespace Sys2Proof.Machine

/-! ### Taking an event off the list changes no register -/

@[simp] theorem State.afterEvent_cfg (s : State) (rest : List Event) :
    (s.afterEvent rest).cfg = s.cfg := rfl
@[simp] theorem State.afterEvent_tie (s : State) (rest : List Event) :
    (s.afterEvent rest).tie = s.tie := rfl
@[simp] theorem State.afterEvent_tpend (s : State) (rest : List Event) :
    (s.afterEvent rest).tpend = s.tpend := rfl

/-! ### The invariant, slot by slot -/

/-- A fault that is recorded asks less of a slot. -/
theorem SlotInv.mono {p q : Prop} {c : SlotCfg} {r : Slot} (hqp : q → p) (h : SlotInv p c r) :
    SlotInv q c r :=
  h.imp_right fun hitems hq => hitems (hqp hq)

/-- The invariant is kept where the parameters and the number of records stay, a pending tick keeps
its exclusion, and every record there is comes from one there was and keeps its own invariant. -/
theorem State.Inv.of_slotwise {s t : State} (h : s.Inv) (hcfg : t.cfg = s.cfg)
    (hlen : t.slots.length = s.slots.length) (hpend : t.tpend = true → t.tie = false)
    (hslot : ∀ (i : Nat) (c : SlotCfg) (r : Slot), s.cfg.slots[i]? = some c →
      s.slots[i]? = some r → SlotInv (s.faults = []) c r →
      ∃ r', t.slots[i]? = some r' ∧ SlotInv (t.faults = []) c r') : t.Inv where
  cfg_wellFormed := hcfg ▸ h.cfg_wellFormed
  slots_length := by rw [hlen, hcfg, h.slots_length]
  pending_excluded := hpend
  slot_inv i c r' hc hr' := by
    rw [hcfg] at hc
    have hlt : i < s.slots.length := hlen ▸ (List.getElem?_eq_some_iff.mp hr').1
    have hr : s.slots[i]? = some s.slots[i] := List.getElem?_eq_getElem hlt
    obtain ⟨r'', hr'', hinv⟩ := hslot i c _ hc hr (h.slot_inv i c _ hc hr)
    cases hr'.symm.trans hr''
    exact hinv

/-- An update that touches neither the slots, the parameters nor the faults keeps the invariant. -/
theorem State.Inv.of_slots_eq {s t : State} (h : s.Inv) (hcfg : t.cfg = s.cfg)
    (hslots : t.slots = s.slots) (hfaults : t.faults = s.faults)
    (hpend : t.tpend = true → t.tie = false) : t.Inv :=
  h.of_slotwise hcfg (congrArg List.length hslots) hpend fun _ _ r _ hr hinv =>
    ⟨r, by rw [hslots, hr], by rwa [hfaults]⟩

/-- Writing one record keeps the invariant, if the new record keeps the slot's, in whatever fault
record the write leaves. -/
theorem State.Inv.of_set {s t : State} (h : s.Inv) {n : Nat} {f : Slot → Slot}
    (hcfg : t.cfg = s.cfg) (hslots : t.slots = s.slots.set n (f (s.slotRec n)))
    (hfaults : t.faults = [] → s.faults = []) (hpend : t.tpend = true → t.tie = false)
    (hf : ∀ c r, s.cfg.slots[n]? = some c → SlotInv (s.faults = []) c r →
      SlotInv (t.faults = []) c (f r)) : t.Inv := by
  refine h.of_slotwise hcfg (by rw [hslots, List.length_set]) hpend fun i c r hc hr hinv => ?_
  obtain ⟨hlt, -⟩ := List.getElem?_eq_some_iff.mp hr
  by_cases hi : n = i
  · subst hi
    exact ⟨f r, by rw [hslots, List.getElem?_set_self hlt, slotRec_of_getElem? hr], hf c r hc hinv⟩
  · exact ⟨r, by rw [hslots, List.getElem?_set_ne hi, hr], hinv.mono hfaults⟩

theorem State.Inv.slotCfg_wellFormed {s : State} (h : s.Inv) {i : Nat} {c : SlotCfg}
    (hc : s.cfg.slots[i]? = some c) : c.wellFormed := by
  obtain ⟨-, -, hall, -⟩ := h.cfg_wellFormed
  exact hall c (List.mem_of_getElem? hc)

theorem inv_afterEvent {s : State} (h : s.Inv) (rest : List Event) : (s.afterEvent rest).Inv :=
  h.of_slots_eq rfl rfl rfl h.pending_excluded

theorem inv_dispatch {s : State} (h : s.Inv) : (dispatch s).Inv := by
  refine h.of_slotwise rfl (dispatchSlots_length ..) h.pending_excluded fun i c r hc hr hinv => ?_
  obtain ⟨hrange, hitems⟩ := slotInv_iff.mp hinv
  exact ⟨_, dispatch_getElem? hc hr, inRange_transition (h.slotCfg_wellFormed hc) hrange,
    fun hfree => slotItems_transition (hitems hfree)⟩

theorem inv_tickEvent {s : State} (h : s.Inv) : (tickEvent s).Inv := by
  unfold tickEvent
  split_ifs with htie
  · exact inv_dispatch h
  · exact h.of_slots_eq rfl rfl rfl h.pending_excluded
  · exact h.of_slots_eq rfl rfl rfl fun _ => Bool.eq_false_of_not_eq_true htie

theorem inv_ctrlWrite {s : State} (h : s.Inv) (v : Word) : (ctrlWrite v s).Inv := by
  unfold ctrlWrite
  split_ifs with hv
  · exact inv_dispatch (h.of_slots_eq rfl rfl rfl nofun)
  · exact h.of_slots_eq rfl rfl rfl fun hpend : s.tpend = true => by simpa [hpend] using hv

theorem inv_statWrite {s : State} (h : s.Inv) (i : Nat) (v : Word) : (statWrite i v s).Inv :=
  h.of_set rfl rfl id h.pending_excluded fun _ _ _ hinv => hinv

theorem inv_exec {s t : State} {i : Instr} (h : s.Inv) (ht : exec i s = .next t) : t.Inv := by
  rcases exec_inv ht with ⟨reason, rfl⟩ | ⟨c, hc, -, -, -, rfl⟩ | ⟨c, hc, hv, -, rfl⟩
  · exact h.of_slots_eq rfl rfl rfl h.pending_excluded
  · refine h.of_set (f := tornSlot c s.freeCount) rfl rfl (by simp) h.pending_excluded ?_
    intro c' r hc' hinv
    cases hc.symm.trans hc'
    exact ⟨inRange_tornSlot hinv.1, by simp⟩
  · refine h.of_set (f := slotEffect i s c) rfl rfl id h.pending_excluded ?_
    intro c' r hc' hinv
    cases hc.symm.trans hc'
    obtain ⟨hrange, hitems⟩ := slotInv_iff.mp hinv
    exact ⟨inRange_slotEffect (h.slotCfg_wellFormed hc) hv hrange,
      fun hfree => slotItems_slotEffect hv (hitems hfree)⟩

theorem EventOutcome.keeps_inv {s t : State} {e : Event} (he : EventOutcome s e t) (h : s.Inv) : t.Inv := by
  cases he with
  | tick => exact inv_tickEvent h
  | word => exact h.of_slots_eq rfl rfl rfl h.pending_excluded
  | ctrl => exact inv_ctrlWrite h _
  | command _ _ _ _ _ _ _ ht => exact inv_exec h ht
  | arg =>
    exact h.of_slots_eq (by simp) (by simp) (by simp) (by simpa using h.pending_excluded)
  | stat => exact inv_statWrite h ..
  | refusal => exact h.of_slots_eq rfl rfl rfl h.pending_excluded

theorem inv_resetFor {cfg : Config} (h : cfg.wellFormed) : (State.resetFor cfg).Inv where
  cfg_wellFormed := h
  slots_length := List.length_map ..
  pending_excluded := nofun
  slot_inv i c r hc hr := by
    obtain ⟨-, -, hall, -⟩ := h
    have hpos := modulus_pos c
    obtain ⟨-, -, -, hinit⟩ := hall c (List.mem_of_getElem? hc)
    have hr' : r = resetSlot c := by
      have hmap : (cfg.slots.map resetSlot)[i]? = some r := hr
      have hsome : cfg.slots[i]? = some c := hc
      simpa [hsome, eq_comm] using hmap
    subst hr'
    refine slotInv_iff.mpr ⟨⟨?_, hpos, hpos, hpos, hpos, hpos⟩, fun _ => ?_⟩
    · unfold resetSlot
      dsimp only
      split_ifs
      · exact hinit
      · exact hpos
    · exact .of_inactive rfl fun _ => rfl

/-! ### The parameters (10 R47) -/

theorem exec_cfg {i : Instr} {s t : State} (h : exec i s = .next t) : t.cfg = s.cfg := by
  rcases exec_inv h with ⟨_, rfl⟩ | ⟨_, -, -, -, -, rfl⟩ | ⟨_, -, -, -, rfl⟩ <;> rfl

theorem EventOutcome.cfg_eq {s t : State} {e : Event} (h : EventOutcome s e t) : t.cfg = s.cfg := by
  cases h with
  | tick => exact tickEvent_cfg s
  | ctrl => exact ctrlWrite_cfg _ s
  | command _ _ _ _ _ _ _ ht => exact exec_cfg ht
  | arg => exact State.setArg_cfg ..
  | word | stat | refusal => rfl

theorem step_cfg {s t : State} (h : step s = .next t) : t.cfg = s.cfg := by
  rcases step_inv h with rfl | ⟨e, rest, -, he⟩
  · rfl
  · exact he.cfg_eq

/-! ### CTRL (10 R44, R45) -/

theorem exec_ctrl {i : Instr} {s t : State} (h : exec i s = .next t) :
    t.tie = s.tie ∧ t.tpend = s.tpend := by
  rcases exec_inv h with ⟨_, rfl⟩ | ⟨_, -, -, -, -, rfl⟩ | ⟨_, -, -, -, rfl⟩ <;> exact ⟨rfl, rfl⟩

/-- What becomes of TIE and TPEND: both stay, or a TICK under exclusion is latched, or a CTRL write
enables ticks and leaves none pending, or one excludes them and leaves TPEND. -/
theorem EventOutcome.ctrl_cases {s t : State} {e : Event} (h : EventOutcome s e t) :
    (t.tie = s.tie ∧ t.tpend = s.tpend) ∨
    (s.tie = false ∧ t.tie = false ∧ t.tpend = true) ∨
    (t.tie = true ∧ t.tpend = false) ∨
    (t.tie = false ∧ t.tpend = s.tpend) := by
  cases h with
  | tick =>
    unfold tickEvent
    split_ifs with htie
    · exact .inl ⟨rfl, rfl⟩
    · exact .inl ⟨rfl, rfl⟩
    · have htie' : s.tie = false := Bool.eq_false_of_not_eq_true htie
      exact .inr (.inl ⟨htie', htie', rfl⟩)
  | ctrl _ _ v =>
    unfold ctrlWrite
    split_ifs with hv
    · exact .inr (.inr (.inl ⟨rfl, rfl⟩))
    · cases hv0 : v.getLsbD 0 with
      | false => exact .inr (.inr (.inr ⟨rfl, rfl⟩))
      | true => exact .inr (.inr (.inl ⟨rfl, by simpa [hv0] using hv⟩))
  | command _ _ _ _ _ _ _ ht => exact .inl (exec_ctrl ht)
  | arg => exact .inl ⟨State.setArg_tie .., State.setArg_tpend ..⟩
  | word | stat | refusal => exact .inl ⟨rfl, rfl⟩

/-! ### The model's records (10 R46) -/

/-- Nothing that `s` records is missing in `t`. -/
def RecordsKept (s t : State) : Prop :=
  s.lostTicks ≤ t.lostTicks ∧ s.faults <+: t.faults ∧ (s.refused = true → t.refused = true) ∧
    s.refusals <+: t.refusals

theorem RecordsKept.of_eq {s t : State} (hl : t.lostTicks = s.lostTicks) (hf : t.faults = s.faults)
    (hr : t.refused = s.refused) (hi : t.refusals = s.refusals) : RecordsKept s t :=
  ⟨hl.ge, hf ▸ List.prefix_rfl, fun h => hr.trans h, hi ▸ List.prefix_rfl⟩

theorem recordsKept_refuse (s : State) (reason : Refusal) (off : Offset) (v : Option Word) :
    RecordsKept s (s.refuse reason off v) :=
  ⟨Nat.le_refl _, List.prefix_rfl, fun _ => rfl, List.prefix_append ..⟩

theorem recordsKept_exec {i : Instr} {s t : State} (h : exec i s = .next t) : RecordsKept s t := by
  rcases exec_inv h with ⟨_, rfl⟩ | ⟨_, -, -, -, -, rfl⟩ | ⟨_, -, -, -, rfl⟩
  · exact recordsKept_refuse ..
  · exact ⟨Nat.le_refl _, List.prefix_append .., id, List.prefix_rfl⟩
  · exact .of_eq rfl rfl rfl rfl

theorem recordsKept_tickEvent (s : State) : RecordsKept s (tickEvent s) := by
  unfold tickEvent
  split_ifs
  · exact .of_eq rfl rfl rfl rfl
  · exact ⟨Nat.le_succ _, List.prefix_rfl, id, List.prefix_rfl⟩
  · exact .of_eq rfl rfl rfl rfl

theorem EventOutcome.recordsKept {s t : State} {e : Event} (h : EventOutcome s e t) :
    RecordsKept s t := by
  cases h with
  | tick => exact recordsKept_tickEvent s
  | ctrl =>
    exact .of_eq (ctrlWrite_lostTicks ..) (ctrlWrite_faults ..) (ctrlWrite_refused ..)
      (ctrlWrite_refusals ..)
  | command _ _ _ _ _ _ _ ht => exact recordsKept_exec ht
  | arg =>
    exact .of_eq (State.setArg_lostTicks ..) (State.setArg_faults ..) (State.setArg_refused ..)
      (State.setArg_refusals ..)
  | word | stat => exact .of_eq rfl rfl rfl rfl
  | refusal => exact recordsKept_refuse ..

/-! ### The argument registers (10 R41) -/

theorem exec_arg {i : Instr} {s t : State} (h : exec i s = .next t) (k : Fin 4) :
    t.arg k = s.arg k := by
  rcases exec_inv h with ⟨_, rfl⟩ | ⟨_, -, -, -, -, rfl⟩ | ⟨_, -, -, -, rfl⟩ <;> rfl

theorem tickEvent_arg (s : State) (k : Fin 4) : (tickEvent s).arg k = s.arg k := by
  unfold tickEvent
  split_ifs <;> rfl

theorem ctrlWrite_arg (v : Word) (s : State) (k : Fin 4) : (ctrlWrite v s).arg k = s.arg k := by
  unfold ctrlWrite
  split_ifs <;> rfl

/-- The block-level map names ARGk at its own offset only (20 R101). -/
theorem blockReg_arg {a : Nat} {k : Fin 4} (h : blockReg a = some (.arg k)) :
    a = 0x0008 + 4 * k.val := by
  unfold blockReg at h
  split_ifs at h with _ _ h0 h1 h2 h3 <;> cases h
  · exact h0
  · exact h1
  · exact h2
  · exact h3

theorem windowReg_ne_arg (i d : Nat) (k : Fin 4) : windowReg i d ≠ some (.arg k) := by
  unfold windowReg
  split_ifs <;> simp

/-- Only an aligned 4-byte access at ARGk's offset reaches ARGk. -/
theorem resolve_arg {cfg : Config} {off : Offset} {size : Nat} {k : Fin 4}
    (h : resolve cfg off size = .ok (.arg k)) :
    size = 4 ∧ off = BitVec.ofNat 16 (0x0008 + 4 * k.val) := by
  unfold resolve at h
  split_ifs at h with hbad
  have hsize : size = 4 := by omega
  have hreg : regAt cfg off = some (.arg k) := by
    cases hg : regAt cfg off with
    | none => simp [hg] at h
    | some g => simpa [hg] using h
  unfold regAt at hreg
  split_ifs at hreg
  · have hoff := blockReg_arg hreg
    exact ⟨hsize, by rw [← hoff, BitVec.ofNat_toNat, BitVec.setWidth_eq]⟩
  · exact absurd hreg (windowReg_ne_arg _ _ k)

theorem EventOutcome.arg_eq {s t : State} {e : Event} {k : Fin 4} (h : EventOutcome s e t)
    (hne : ∀ v, e ≠ .write (BitVec.ofNat 16 (0x0008 + 4 * k.val)) 4 v) : t.arg k = s.arg k := by
  cases h with
  | tick => exact tickEvent_arg s k
  | ctrl => exact ctrlWrite_arg _ s k
  | command _ _ _ _ _ _ _ ht => exact exec_arg ht k
  | arg off size v j hres =>
    obtain ⟨rfl, rfl⟩ := resolve_arg hres
    exact State.setArg_arg_other s j k v fun hkj => hne v (hkj ▸ rfl)
  | word | stat | refusal => rfl

/-! ### One slot's record from that slot alone (10 R61) -/

/-- A command's effect reads the parameters and the argument registers, and nothing else of the
state. -/
theorem slotEffect_congr (i : Instr) {s s' : State} (hcfg : s.cfg = s'.cfg)
    (harg : ∀ k, s.arg k = s'.arg k) : slotEffect i s = slotEffect i s' := by
  obtain ⟨cfg, _, _, a0, a1, a2, a3⟩ := s
  obtain ⟨cfg', _, _, a0', a1', a2', a3'⟩ := s'
  obtain rfl : cfg = cfg' := hcfg
  obtain rfl : a0 = a0' := harg 0
  obtain rfl : a1 = a1' := harg 1
  obtain rfl : a2 = a2' := harg 2
  obtain rfl : a3 = a3' := harg 3
  cases i <;> rfl

/-- The record of a command's slot after it, from what the command reads: refused, the record there
was; faulted, a torn one; else the effect on it. -/
def recordAfter (i : Instr) (s : State) : Option Slot :=
  match s.cfg.slots[i.slot.toNat]? with
  | none => s.slots[i.slot.toNat]?
  | some c =>
    if c.vt ≠ i.variant then s.slots[i.slot.toNat]?
    else if i.excluded && s.tie then s.slots[i.slot.toNat]?.map (tornSlot c s.freeCount)
    else s.slots[i.slot.toNat]?.map (slotEffect i s c)

theorem getElem?_set_slotRec (s : State) (n : Nat) (f : Slot → Slot) :
    (s.slots.set n (f (s.slotRec n)))[n]? = s.slots[n]?.map f := by
  cases hr : s.slots[n]? with
  | none => simp [List.getElem?_eq_none_iff.mp hr]
  | some r =>
    obtain ⟨hlt, -⟩ := List.getElem?_eq_some_iff.mp hr
    simp [hlt, slotRec_of_getElem? hr]

theorem exec_getElem?_self {i : Instr} {s t : State} (h : exec i s = .next t) :
    t.slots[i.slot.toNat]? = recordAfter i s := by
  rcases exec_cases i s with ⟨hc, h'⟩ | ⟨c, hc, ⟨hv, h'⟩ | ⟨hv, hx, htie, h'⟩ | ⟨hv, hx, h'⟩⟩ <;>
    cases h'.symm.trans h
  · simp [recordAfter, hc]
  · simp [recordAfter, hc, hv]
  · have htorn := getElem?_set_slotRec s i.slot.toNat (tornSlot c s.freeCount)
    simpa [recordAfter, hc, hv, hx, htie] using htorn
  · have hform : (i.excluded && s.tie) = false := by simpa using hx
    have heffect := getElem?_set_slotRec s i.slot.toNat (slotEffect i s c)
    simpa only [recordAfter, hc, hv, hform, ne_eq, not_true_eq_false, if_false, Bool.false_eq_true,
      State.setSlot_slots] using heffect

theorem exec_getElem?_other {i : Instr} {s t : State} {j : Nat} (h : exec i s = .next t)
    (hj : j ≠ i.slot.toNat) : t.slots[j]? = s.slots[j]? := by
  rcases exec_inv h with ⟨_, rfl⟩ | ⟨_, -, -, -, -, rfl⟩ | ⟨_, -, -, -, rfl⟩
  · rfl
  · exact List.getElem?_set_ne hj.symm
  · exact List.getElem?_set_ne hj.symm

theorem recordAfter_congr {i : Instr} {s s' : State} (hcfg : s.cfg = s'.cfg) (htie : s.tie = s'.tie)
    (harg : ∀ k, s.arg k = s'.arg k) (hfree : s.freeCount = s'.freeCount)
    (hslot : s.slots[i.slot.toNat]? = s'.slots[i.slot.toNat]?) :
    recordAfter i s = recordAfter i s' := by
  unfold recordAfter
  rw [hcfg, htie, hfree, hslot, slotEffect_congr i hcfg harg]

/-! ### The flags over a transition (10 R52, R53) -/

/-- A flag set in `r` is set in `r'`. -/
def FlagsKept (r r' : Slot) : Prop :=
  (r.expired = true → r'.expired = true) ∧ (r.tickf = true → r'.tickf = true)

theorem FlagsKept.refl (r : Slot) : FlagsKept r r := ⟨id, id⟩

theorem FlagsKept.of_eq {r r' : Slot} (he : r'.expired = r.expired) (ht : r'.tickf = r.tickf) :
    FlagsKept r r' :=
  ⟨fun h => he.trans h, fun h => ht.trans h⟩

/-- A terminal step sets `expired` and leaves `tickf`. -/
theorem FlagsKept.of_expire {r r' : Slot} (ht : r'.tickf = r.tickf) : FlagsKept r r'.expire :=
  ⟨fun _ => rfl, fun h => ht.trans h⟩

/-- A tick sets `tickf` and leaves `expired`. -/
theorem FlagsKept.of_raiseTick {r r' : Slot} (he : r'.expired = r.expired) :
    FlagsKept r r'.raiseTick :=
  ⟨fun h => he.trans h, fun _ => rfl⟩

theorem flagsKept_reachThreshold {r r' : Slot} (he : r'.expired = r.expired)
    (ht : r'.tickf = r.tickf) : FlagsKept r (reachThreshold r') := by
  unfold reachThreshold
  split_ifs
  · exact .of_expire ht
  · exact .of_eq he ht

theorem flagsKept_countdownReload (c : SlotCfg) (period : Nat) (r : Slot) :
    FlagsKept r (countdownReload c period r) := by
  unfold countdownReload
  dsimp only
  split_ifs
  · exact .of_raiseTick rfl
  · exact .of_eq rfl rfl

theorem flagsKept_tSp (c : SlotCfg) (r : Slot) : FlagsKept r (tSp c r) := by
  unfold tSp
  dsimp only
  split_ifs
  · exact .of_expire rfl
  · exact .of_eq rfl rfl
  · exact .refl r

theorem flagsKept_tFb (c : SlotCfg) (r : Slot) : FlagsKept r (tFb c r) := by
  unfold tFb
  split_ifs
  · exact flagsKept_reachThreshold rfl rfl
  · exact .of_eq rfl rfl
  · exact .refl r

theorem flagsKept_tVs (ovf : FwdOverflow) (c : SlotCfg) (r : Slot) : FlagsKept r (tVs ovf c r) := by
  unfold tVs
  split_ifs
  · exact flagsKept_reachThreshold rfl rfl
  · exact .of_eq rfl rfl
  · exact .refl r

theorem flagsKept_tCt (c : SlotCfg) (r : Slot) : FlagsKept r (tCt c r) := by
  unfold tCt
  split_ifs
  · exact flagsKept_countdownReload ..
  · exact .refl r

theorem flagsKept_tCp (c : SlotCfg) (r : Slot) : FlagsKept r (tCp c r) := by
  unfold tCp
  split_ifs
  · exact flagsKept_countdownReload ..
  · exact .refl r

theorem flagsKept_tAc (c : SlotCfg) (r : Slot) : FlagsKept r (tAc c r) := by
  unfold tAc
  dsimp only
  split_ifs
  · exact .of_raiseTick rfl
  · exact .of_raiseTick rfl
  · exact .of_eq rfl rfl
  · exact .refl r

theorem flagsKept_tAs (c : SlotCfg) (r : Slot) : FlagsKept r (tAs c r) := by
  unfold tAs
  dsimp only
  split_ifs
  · exact .of_eq rfl rfl
  · exact .of_expire rfl
  · exact .of_eq rfl rfl
  · exact .refl r

theorem burstChange_expired (c : SlotCfg) (r : Slot) :
    (burstChange c r).expired = r.expired := by
  unfold burstChange
  dsimp only
  split_ifs <;> rfl

theorem flagsKept_tBg (c : SlotCfg) (r : Slot) : FlagsKept r (tBg c r) := by
  unfold tBg
  dsimp only
  split_ifs
  · exact .of_raiseTick (burstChange_expired c r)
  · exact .of_eq rfl rfl
  · exact .refl r

theorem flagsKept_tBgo (c : SlotCfg) (r : Slot) : FlagsKept r (tBgo c r) := by
  unfold tBgo
  dsimp only
  split_ifs
  · exact .of_raiseTick (burstChange_expired c r)
  · exact .of_raiseTick (burstChange_expired c r)
  · exact .of_eq rfl rfl
  · exact .refl r

theorem flagsKept_transition (ovf : FwdOverflow) (c : SlotCfg) (r : Slot) :
    FlagsKept r (transition ovf c r) := by
  unfold transition
  cases c.vt with
  | sp => exact flagsKept_tSp c r
  | fb => exact flagsKept_tFb c r
  | vs => exact flagsKept_tVs ovf c r
  | ct => exact flagsKept_tCt c r
  | cp => exact flagsKept_tCp c r
  | fr => exact flagsKept_countdownReload c c.k r
  | ac => exact flagsKept_tAc c r
  | as => exact flagsKept_tAs c r
  | bg => exact flagsKept_tBg c r
  | bgo => exact flagsKept_tBgo c r

theorem flagsKept_dispatch {s : State} {j : Nat} {r r' : Slot} (hr : s.slots[j]? = some r)
    (hr' : (dispatch s).slots[j]? = some r') : FlagsKept r r' := by
  cases hc : s.cfg.slots[j]? with
  | none =>
    simp only [dispatch_slots, dispatchSlots_getElem?, hc, hr] at hr'
    cases hr'
    exact .refl r
  | some c =>
    cases (dispatch_getElem? hc hr).symm.trans hr'
    exact flagsKept_transition ..

/-! ### Who writes the counter (10 R51) -/

/-- The operations that never write `cnt` (10 R51; FR.RESET does). -/
def KeepsCounter (i : Instr) : Prop :=
  i.op = .stop ∨ (i.op = .reset ∧ i.variant ≠ .fr) ∨ i.op = .clear ∨ i.op = .chgset ∨
    i.op = .revive ∨ i.op = .suspend ∨ i.op = .resume

theorem reachThreshold_cnt (r : Slot) : (reachThreshold r).cnt = r.cnt := by
  unfold reachThreshold
  split_ifs <;> rfl

theorem recheckThreshold_cnt (r : Slot) : (recheckThreshold r).cnt = r.cnt := by
  unfold recheckThreshold
  split_ifs
  · exact reachThreshold_cnt r
  · rfl

theorem suspendSlot_cnt (r : Slot) : (suspendSlot r).cnt = r.cnt := by
  unfold suspendSlot
  split_ifs <;> rfl

theorem resumeSlot_cnt (r : Slot) : (resumeSlot r).cnt = r.cnt := by
  unfold resumeSlot
  split_ifs <;> rfl

theorem slotEffect_cnt {i : Instr} (hi : KeepsCounter i) (s : State) (c : SlotCfg) (r : Slot) :
    (slotEffect i s c r).cnt = r.cnt := by
  cases i with
  | spStep | spStepI | fbStep | fbStepI | vsStep | vsStepI | ctStep | ctStepI | cpStep | cpStepI
  | frStep | frStepI | acStep | acStepI | asStep | asStepI | bgStep | bgStepI | bgoStep | bgoStepI
  | spSet | spSetI | fbSet | fbSetI | vsSet | vsSetI | ctSet | ctSetI | cpSet | cpSetI | acSet
  | acSetI | asSet | asSetI | bgSet | bgSetI | bgoSet | bgoSetI | frReset | frResetI =>
    simp [KeepsCounter, Instr.op, Instr.variant, Instr.cell] at hi
  | fbChgset | fbChgsetI | vsChgset | vsChgsetI => exact recheckThreshold_cnt _
  | acSuspend | acSuspendI | asSuspend | asSuspendI => exact suspendSlot_cnt r
  | acResume | acResumeI | asResume | asResumeI => exact resumeSlot_cnt r
  | _ => rfl

theorem exec_keeps_counters {i : Instr} {s t : State} {j : Nat} {r r' : Slot} (hi : KeepsCounter i)
    (hx : i.excluded = true → s.tie = false) (ht : exec i s = .next t) (hr : s.slots[j]? = some r)
    (hr' : t.slots[j]? = some r') : r'.cnt = r.cnt := by
  rcases exec_inv ht with ⟨_, rfl⟩ | ⟨_, -, -, hex, htie, -⟩ | ⟨c, -, -, -, rfl⟩
  · cases hr.symm.trans hr'
    rfl
  · simp [hx hex] at htie
  · by_cases hj : j = i.slot.toNat
    · subst hj
      rw [State.setSlot_slots, getElem?_set_slotRec s _ (slotEffect i s c), hr] at hr'
      cases hr'
      exact slotEffect_cnt hi s c r
    · rw [exec_getElem?_other ht hj, hr] at hr'
      cases hr'
      rfl

end Sys2Proof.Machine
end

section
/-! SETTLED. The invariants and the independence statements of 10_state.md. -/

namespace Sys2Proof.Proofs

open Sys2Proof Sys2Proof.Machine

/-- Settles O8: no event, or an outcome of the event, and each keeps `State.Inv`. -/
theorem everyStepKeepsTheInvariant : Obligations.EveryStepKeepsTheInvariant := by
  intro s t hinv hstep
  rcases step_inv hstep with rfl | ⟨e, rest, -, he⟩
  · exact hinv
  · exact he.keeps_inv (inv_afterEvent hinv rest)

/-- Settles O7, over everything a step or a command can end in. -/
theorem parametersNeverChange : Obligations.ParametersNeverChange :=
  ⟨fun _ _ => step_cfg, fun _ _ _ => exec_cfg, dispatch_cfg, fun _ => rfl⟩

/-- Settles O10, over the four things that can become of TIE and TPEND. -/
theorem pendingTickImpliesExclusion : Obligations.PendingTickImpliesExclusion := by
  intro s t hstep
  have hcases : (t.tie = s.tie ∧ t.tpend = s.tpend) ∨
      (s.tie = false ∧ t.tie = false ∧ t.tpend = true) ∨
      (t.tie = true ∧ t.tpend = false) ∨ (t.tie = false ∧ t.tpend = s.tpend) := by
    rcases step_inv hstep with rfl | ⟨e, rest, -, he⟩
    · exact .inl ⟨rfl, rfl⟩
    · simpa using he.ctrl_cases
  rcases hcases with ⟨htie, hpend⟩ | ⟨hs, htie, hpend⟩ | ⟨htie, hpend⟩ | ⟨htie, hpend⟩
  · simp +contextual [htie, hpend]
  · simp [hs, htie, hpend]
  · simp [htie, hpend]
  · simp +contextual [htie, hpend]

/-- Settles O11, over everything a step can end in. -/
theorem modelRecordsAreNeverCleared : Obligations.ModelRecordsAreNeverCleared := by
  intro s t hstep
  rcases step_inv hstep with rfl | ⟨e, rest, -, he⟩
  · exact RecordsKept.of_eq rfl rfl rfl rfl
  · exact he.recordsKept

/-- Settles O26: only the outcome `arg` writes an argument register, and the address map gives it to
a 4-byte write at that register's offset alone. -/
theorem argRegistersChangeOnlyByHostWrites : Obligations.ArgRegistersChangeOnlyByHostWrites := by
  refine ⟨fun _ _ _ => exec_arg, fun _ _ => rfl, fun s t e rest k hin hne hstep => ?_⟩
  rw [step_cons hin] at hstep
  exact (handleEvent_inv hstep).arg_eq hne

/-- Settles O27: a command writes its own slot's record, which `recordAfter` gives from what the
command reads, and a dispatch gives each record from that slot's alone. -/
theorem slotsAreIndependent : Obligations.SlotsAreIndependent := by
  refine ⟨fun i s t j => exec_getElem?_other, ?_, ?_⟩
  · intro i s s' t t' hcfg htie harg hfree hslot ht ht'
    calc t.slots[i.slot.toNat]? = recordAfter i s := exec_getElem?_self ht
      _ = recordAfter i s' := recordAfter_congr hcfg htie harg hfree hslot
      _ = t'.slots[i.slot.toNat]? := (exec_getElem?_self ht').symm
  · intro s s' j hcfg hslot
    simp only [dispatch_slots, dispatchSlots_getElem?, hcfg, hslot]

/-- Settles O28: a dispatch is one transition of each slot, and no transition clears a flag. -/
theorem dispatchNeverClearsAFlag : Obligations.DispatchNeverClearsAFlag :=
  fun _ _ _ _ => flagsKept_dispatch

/-- Settles O29: a refusal leaves every record, and no effect of these operations writes `cnt`. -/
theorem stopResetClearChangeReviveSuspendKeepTheCounter :
    Obligations.StopResetClearChangeReviveSuspendKeepTheCounter :=
  fun _ _ _ _ _ _ => exec_keeps_counters

/-- Settles O9: every reset record is inactive, with its counter 0 or the legal FR_INIT. -/
theorem invariantHoldsAfterReset : Obligations.InvariantHoldsAfterReset :=
  ⟨fun _ => inv_resetFor, inv_resetFor (by decide)⟩

end Sys2Proof.Proofs
end

section
/-! SUPPORT. What the host reads from CTRL, INFO and a slot's window, and the refusal of a write to a
read-only register. -/

namespace Sys2Proof.Machine

/-- The registers the host can read and not write (20 R107). -/
def Reg.readOnly : Reg → Bool
  | .info | .cnt _ | .setting _ _ | .rem _ => true
  | _ => false

theorem readReg_afterEvent (s : State) (rest : List Event) (g : Reg) :
    readReg (s.afterEvent rest) g = readReg s g := by
  cases g <;> rfl

/-- A read that reaches a readable register puts its word on the bus and does nothing else. -/
theorem step_read {s : State} {rest : List Event} {off : Offset} {size : Nat} {g : Reg} {v : Word}
    (hin : s.inputs = .read off size :: rest) (hg : resolve s.cfg off size = .ok g)
    (hv : readReg s g = some v) : step s = .next { s.afterEvent rest with rdata := some v } := by
  have hv' : readReg (s.afterEvent rest) g = some v := (readReg_afterEvent s rest g).trans hv
  rw [step_cons hin]
  simp [handleEvent, hostRead, hg, hv']

/-- A write that reaches a read-only register is refused as BUS_ACCESS and recorded. -/
theorem step_write_readOnly {s : State} {rest : List Event} {off : Offset} {size : Nat} {g : Reg}
    {u : Word} (hin : s.inputs = .write off size u :: rest) (hg : resolve s.cfg off size = .ok g)
    (hro : g.readOnly = true) :
    step s = .next ((s.afterEvent rest).afterRefusal .busAccess off (some u)) := by
  rw [step_cons hin]
  simp only [handleEvent, hostWrite, State.afterEvent_cfg, hg]
  cases g with
  | info | cnt | setting | rem => rfl
  | ctrl | cmd | arg | stat => cases hro

theorem resolve_window_of_reg {s : State} {slot : SlotIdx} {v : Variant} {c : SlotCfg} {r : Slot}
    (h : SlotIs s slot v c r) {d : Nat} {g : Reg} (hd : d < 0x20) (h4 : d % 4 = 0)
    (hg : windowReg slot.toNat d = some g) :
    resolve s.cfg (BitVec.ofNat 16 (0x0100 + 0x20 * slot.toNat + d)) 4 = .ok g := by
  rw [resolve_window h.lt_nSlots hd h4, hg]

/-! ### CTRL and INFO (10 R43, R44) -/

theorem ctrlWord_eq (s : State) :
    ctrlWord s = BitVec.ofNat 32 (s.tie.toNat + 2 * s.tpend.toNat) := by
  unfold ctrlWord
  cases s.tie <;> cases s.tpend <;> rfl

theorem infoWord_eq {cfg : Config} (h : cfg.nSlots ≤ 256) :
    infoWord cfg = BitVec.ofNat 32 cfg.nSlots := by
  apply BitVec.eq_of_toNat_eq
  simp only [infoWord, BitVec.toNat_setWidth, BitVec.toNat_ofNat]
  omega

/-! ### STAT (10 R49, R65) -/

theorem statBit_true_iff {v : Variant} {f : SlotField} {b : Bool} :
    (statBit v f b).getLsbD 0 = true ↔ hasField v f = true ∧ b = true := by
  simp [statBit]

/-- Where each field of STAT stands in the word (10 R65). -/
theorem statWord_fields (v : Variant) (r : Slot) :
    (statWord v r).getLsbD 0 = (v = .fr || r.active) ∧
    (statWord v r).getLsbD 1 = (statBit v .expired r.expired).getLsbD 0 ∧
    (statWord v r).getLsbD 2 = (statBit v .tickf r.tickf).getLsbD 0 ∧
    (statWord v r).getLsbD 3 = (statBit v .dir r.dir).getLsbD 0 ∧
    (statWord v r).getLsbD 4 = (statBit v .state r.state).getLsbD 0 ∧
    (statWord v r).getLsbD 5 = (statBit v .phase r.phase).getLsbD 0 ∧
    (statWord v r).getLsbD 6 = (statBit v .susp r.susp).getLsbD 0 ∧
    (statWord v r).getLsbD 7 = (statBit v .out r.out).getLsbD 0 := by
  refine ⟨?_, ?_, ?_, ?_, ?_, ?_, ?_, ?_⟩ <;> simp only [statWord, BitVec.getLsbD_append] <;> simp

/-- The variant code stands in bits 15:12, and bits 11:8 and 31:16 are 0. -/
theorem statWord_rest (v : Variant) (r : Slot) :
    (statWord v r).extractLsb' 8 4 = 0#4 ∧ (statWord v r).extractLsb' 12 4 = variantCode v ∧
      (statWord v r).extractLsb' 16 16 = 0#16 := by
  refine ⟨?_, ?_, ?_⟩ <;> apply BitVec.eq_of_getLsbD_eq <;> intro j hj <;>
    simp only [statWord, BitVec.getLsbD_extractLsb', BitVec.getLsbD_append] <;>
    interval_cases j <;> simp

/-! ### The counter, the settings and REM (10 R49, R66) -/

/-- S0 reads K for CP and FR, 0 for SP and the setting for every other variant. -/
theorem settingWord_zero (c : SlotCfg) (r : Slot) :
    settingWord c r 0 = if c.vt = .cp ∨ c.vt = .fr then BitVec.ofNat 32 c.k
      else if c.vt = .sp then 0#32 else BitVec.ofNat 32 r.s0 := by
  unfold settingWord fieldWord
  cases c.vt <;> rfl

theorem settingWord_one (c : SlotCfg) (r : Slot) :
    settingWord c r 1 = if c.vt = .vs ∨ c.vt = .ac ∨ c.vt = .as ∨ c.vt = .bg ∨ c.vt = .bgo then
      BitVec.ofNat 32 r.s1 else 0#32 := by
  unfold settingWord fieldWord
  cases c.vt <;> rfl

theorem settingWord_two (c : SlotCfg) (r : Slot) :
    settingWord c r 2 = if c.vt = .vs ∨ c.vt = .bg ∨ c.vt = .bgo then BitVec.ofNat 32 r.s2
      else 0#32 := by
  unfold settingWord fieldWord
  cases c.vt <;> rfl

theorem settingWord_three (c : SlotCfg) (r : Slot) :
    settingWord c r 3 = if c.vt = .bg ∨ c.vt = .bgo then BitVec.ofNat 32 r.s3 else 0#32 := by
  unfold settingWord fieldWord
  cases c.vt <;> rfl

theorem remWord_eq (c : SlotCfg) (r : Slot) :
    remWord c r = if c.vt = .bg ∨ c.vt = .bgo then BitVec.ofNat 32 r.rem else 0#32 := by
  unfold remWord fieldWord
  cases c.vt <;> rfl

theorem readReg_stat {s : State} {slot : SlotIdx} {v : Variant} {c : SlotCfg} {r : Slot}
    (h : SlotIs s slot v c r) : readReg s (.stat slot.toNat) = some (statWord c.vt r) := by
  simp only [readReg, h.getD_cfg, h.slotRec_eq]

theorem readReg_cnt {s : State} {slot : SlotIdx} {v : Variant} {c : SlotCfg} {r : Slot}
    (h : SlotIs s slot v c r) : readReg s (.cnt slot.toNat) = some (BitVec.ofNat 32 r.cnt) := by
  simp only [readReg, cntWord, h.slotRec_eq]

theorem readReg_setting {s : State} {slot : SlotIdx} {v : Variant} {c : SlotCfg} {r : Slot}
    (h : SlotIs s slot v c r) (k : Fin 4) :
    readReg s (.setting k slot.toNat) = some (settingWord c r k) := by
  simp only [readReg, h.getD_cfg, h.slotRec_eq]

theorem readReg_rem {s : State} {slot : SlotIdx} {v : Variant} {c : SlotCfg} {r : Slot}
    (h : SlotIs s slot v c r) : readReg s (.rem slot.toNat) = some (remWord c r) := by
  simp only [readReg, h.getD_cfg, h.slotRec_eq]

/-- Both accesses to a read-only register of a slot's window: the read answers its word, the write is
refused. -/
theorem step_readOnly_window {s : State} {rest : List Event} {slot : SlotIdx} {v : Variant}
    {c : SlotCfg} {r : Slot} {d : Nat} {g : Reg} {w : Word} (h : SlotIs s slot v c r) (hd : d < 0x20)
    (h4 : d % 4 = 0) (hg : windowReg slot.toNat d = some g) (hro : g.readOnly = true)
    (hw : readReg s g = some w) :
    (s.inputs = .read (BitVec.ofNat 16 (0x0100 + 0x20 * slot.toNat + d)) 4 :: rest →
      step s = .next { s.afterEvent rest with rdata := some w }) ∧
    (∀ u, s.inputs = .write (BitVec.ofNat 16 (0x0100 + 0x20 * slot.toNat + d)) 4 u :: rest →
      step s = .next ((s.afterEvent rest).afterRefusal .busAccess
        (BitVec.ofNat 16 (0x0100 + 0x20 * slot.toNat + d)) (some u))) :=
  have hres := resolve_window_of_reg h hd h4 hg
  ⟨fun hin => step_read hin hres hw, fun _ hin => step_write_readOnly hin hres hro⟩

end Sys2Proof.Machine
end

section
/-! SETTLED. What the host reads (10 R43, R44, R65, R66). -/

namespace Sys2Proof.Proofs

open Sys2Proof Sys2Proof.Machine

/-- Settles O20: the read reaches STAT, whose word `statWord_fields` and `statWord_rest` describe bit
by bit, each field where the presence table of 10 R49 has it. -/
theorem statReadLayout : Obligations.StatReadLayout := by
  intro s rest slot c r hs hin
  have hres : resolve s.cfg (BitVec.ofNat 16 (0x0100 + 0x20 * slot.toNat)) 4 =
      .ok (.stat slot.toNat) :=
    resolve_window_of_reg hs (d := 0) (by decide) rfl rfl
  obtain ⟨b0, b1, b2, b3, b4, b5, b6, b7⟩ := statWord_fields c.vt r
  refine ⟨statWord c.vt r, step_read hin hres (readReg_stat hs), ?_⟩
  rw [b0, b1, b2, b3, b4, b5, b6, b7]
  simp only [statBit_true_iff]
  simpa [hasField] using statWord_rest c.vt r

/-- Settles O19: both offsets reach their register, and the two words are computed from the fields. -/
theorem ctrlAndInfoReads : Obligations.CtrlAndInfoReads := by
  intro s rest
  refine ⟨fun hin => step_read (g := .ctrl) hin rfl ?_, fun hn hin => step_read (g := .info) hin rfl ?_⟩
  · exact congrArg some (ctrlWord_eq s)
  · exact congrArg some (infoWord_eq hn)

/-- Settles O21: the six offsets are the read-only registers of the slot's window. -/
theorem counterSettingAndRemRegisters : Obligations.CounterSettingAndRemRegisters := by
  intro s rest slot c r v d hs h04 h08 h0C h10 h14 h18 hd
  rcases hd with rfl | rfl | rfl | rfl | rfl | rfl
  · rw [h04 rfl]
    exact step_readOnly_window hs (by decide) rfl rfl rfl (readReg_cnt hs)
  · rw [h08 rfl, ← settingWord_zero]
    exact step_readOnly_window hs (by decide) rfl rfl rfl (readReg_setting hs 0)
  · rw [h0C rfl, ← settingWord_one]
    exact step_readOnly_window hs (by decide) rfl rfl rfl (readReg_setting hs 1)
  · rw [h10 rfl, ← settingWord_two]
    exact step_readOnly_window hs (by decide) rfl rfl rfl (readReg_setting hs 2)
  · rw [h14 rfl, ← settingWord_three]
    exact step_readOnly_window hs (by decide) rfl rfl rfl (readReg_setting hs 3)
  · rw [h18 rfl, ← remWord_eq]
    exact step_readOnly_window hs (by decide) rfl rfl rfl (readReg_rem hs)

end Sys2Proof.Proofs
end

section
/-! SUPPORT. Which accesses the address map admits (20 R101, R102, 60 R807), and what a step does with
an access to an argument register and with one that is not admitted. -/

namespace Sys2Proof.Machine

/-! ### The unmapped offsets (20 R101, R102, R103) -/

theorem blockReg_eq_none_iff {a : Nat} (h4 : a % 4 = 0) : blockReg a = none ↔ 0x001C ≤ a := by
  unfold blockReg
  split_ifs <;> simp <;> omega

theorem windowReg_eq_none_iff (i : Nat) {d : Nat} (hd : d < 0x20) (h4 : d % 4 = 0) :
    windowReg i d = none ↔ d = 0x1C := by
  unfold windowReg
  split_ifs <;> simp <;> omega

/-- An aligned offset is unmapped in the gap after the block-level registers, from the end of the last
window on, from the end of the window area on, and at the last word of each window. -/
theorem regAt_eq_none_iff {cfg : Config} {off : Offset} (h4 : off.toNat % 4 = 0) :
    regAt cfg off = none ↔
      (0x001C ≤ off.toNat ∧ off.toNat < 0x0100) ∨ 0x0100 + 0x20 * cfg.nSlots ≤ off.toNat ∨
        0x2100 ≤ off.toNat ∨ (0x0100 ≤ off.toNat ∧ off.toNat % 0x20 = 0x1C) := by
  unfold regAt
  split_ifs with hblock hwindow
  · rw [blockReg_eq_none_iff h4]
    omega
  · rw [windowReg_eq_none_iff _ (by omega) (by omega)]
    omega
  · simp only [true_iff]
    omega

/-! ### The two checks of an access, in their order (60 R807) -/

theorem resolve_bad_size_or_alignment {cfg : Config} {off : Offset} {size : Nat}
    (h : size ≠ 4 ∨ off.toNat % 4 ≠ 0) : resolve cfg off size = .error .busAccess :=
  if_pos h

theorem resolve_unmapped {cfg : Config} {off : Offset} {size : Nat}
    (h : ¬(size ≠ 4 ∨ off.toNat % 4 ≠ 0)) (hmap : regAt cfg off = none) :
    resolve cfg off size = .error .busUnmapped := by
  unfold resolve
  rw [if_neg h, hmap]

/-- ARGk's own offset reaches ARGk, the converse of `resolve_arg`. -/
theorem resolve_at_arg (cfg : Config) (k : Fin 4) :
    resolve cfg (BitVec.ofNat 16 (0x0008 + 4 * k.val)) 4 = .ok (.arg k) := by
  match k with
  | 0 | 1 | 2 | 3 => rfl

/-! ### Steps on these accesses (20 R104, R105, R107) -/

theorem readReg_rdata (s : State) (w : Option Word) (g : Reg) :
    readReg { s with rdata := w } g = readReg s g := by
  cases g <;> rfl

theorem step_read_arg {s : State} {rest : List Event} {k : Fin 4}
    (hin : s.inputs = .read (BitVec.ofNat 16 (0x0008 + 4 * k.val)) 4 :: rest) :
    step s = .next { s.afterEvent rest with rdata := some (s.arg k) } :=
  step_read hin (resolve_at_arg s.cfg k) rfl

theorem step_write_arg {s : State} {rest : List Event} {k : Fin 4} {v : Word}
    (hin : s.inputs = .write (BitVec.ofNat 16 (0x0008 + 4 * k.val)) 4 v :: rest) :
    step s = .next ((s.afterEvent rest).setArg k v) := by
  rw [step_cons hin]
  simp only [handleEvent, hostWrite, resolve_at_arg]

theorem step_read_error {s : State} {rest : List Event} {off : Offset} {size : Nat} {e : Refusal}
    (hin : s.inputs = .read off size :: rest) (he : resolve s.cfg off size = .error e) :
    step s = .next ((s.afterEvent rest).afterRefusal e off none) := by
  rw [step_cons hin]
  simp only [handleEvent, hostRead, State.afterEvent_cfg, he]
  rfl

theorem step_write_error {s : State} {rest : List Event} {off : Offset} {size : Nat} {v : Word}
    {e : Refusal} (hin : s.inputs = .write off size v :: rest)
    (he : resolve s.cfg off size = .error e) :
    step s = .next ((s.afterEvent rest).afterRefusal e off (some v)) := by
  rw [step_cons hin]
  simp only [handleEvent, hostWrite, State.afterEvent_cfg, he]
  rfl

/-- A read that reaches a register without a value to read is refused as BUS_ACCESS and recorded. -/
theorem step_read_writeOnly {s : State} {rest : List Event} {off : Offset} {size : Nat} {g : Reg}
    (hin : s.inputs = .read off size :: rest) (hg : resolve s.cfg off size = .ok g)
    (hv : readReg s g = none) :
    step s = .next ((s.afterEvent rest).afterRefusal .busAccess off none) := by
  have hv' : readReg (s.afterEvent rest) g = none := (readReg_afterEvent s rest g).trans hv
  rw [step_cons hin]
  simp only [handleEvent, hostRead, State.afterEvent_cfg, hg, hv']
  rfl

end Sys2Proof.Machine
end

section
/-! SETTLED. The accesses of 20_memory.md. -/

namespace Sys2Proof.Proofs

open Sys2Proof Sys2Proof.Machine

/-- Settles O18: a read of a readable register changes no register, so the same read after it finds
the same word; every other read is refused. -/
theorem readsHaveNoSideEffect : Obligations.ReadsHaveNoSideEffect := by
  intro s t off size rest hin hstep
  rw [step_cons hin] at hstep
  rcases hostRead_cases off size (s.afterEvent rest) with ⟨g, v, hg, hv, hread⟩ | ⟨reason, hread⟩
  · cases hread.symm.trans hstep
    refine .inl ⟨v, rfl, fun t' more hmore hstep' => ?_⟩
    have hagain := step_read (s := { s.afterEvent rest with rdata := some v }) hmore hg
      ((readReg_rdata _ _ g).trans hv)
    cases hagain.symm.trans hstep'
    rfl
  · cases hread.symm.trans hstep
    exact .inr ⟨reason, rfl⟩

/-- Settles O22: the first two checks end in an error, size and alignment before the map; CMD has no
value to read and INFO is read-only. -/
theorem badAccessesAreRefusedInOrder : Obligations.BadAccessesAreRefusedInOrder := by
  intro s rest off size v reason hreason
  have herror : resolve s.cfg off size = .error reason := by
    split_ifs at hreason with hbad hunmapped
    · rw [hreason]
      exact resolve_bad_size_or_alignment hbad
    · rw [hreason]
      exact resolve_unmapped hbad ((regAt_eq_none_iff (by omega)).mpr hunmapped)
  exact ⟨fun hin => step_read_error hin herror, fun hin => step_write_error hin herror,
    fun _ hin => step_read_writeOnly (g := .cmd) hin rfl rfl,
    fun _ hin => step_write_readOnly (g := .info) hin rfl rfl⟩

/-- Settles O17: the four offsets are those of ARG0 to ARG3. -/
theorem argRegistersAreWrittenAndReadBack : Obligations.ArgRegistersAreWrittenAndReadBack := by
  intro s rest v
  exact ⟨step_write_arg (k := 0), step_write_arg (k := 1), step_write_arg (k := 2),
    step_write_arg (k := 3), step_read_arg (k := 0), step_read_arg (k := 1),
    step_read_arg (k := 2), step_read_arg (k := 3)⟩

end Sys2Proof.Proofs
end

section
/-! SUPPORT. The decoder answers one case per word, and it is the encoder's inverse (30 R147 to
R149). -/

namespace Sys2Proof

/-! ### The fields of a word and the opcode map (30 R144) -/

/-- The four fields name `i` where VT and OP are codes and X, SLOT and these stand in `i`'s cell. -/
theorem instrOfFields_eq_some_iff {vt op : BitVec 4} {x : Bool} {slot : SlotIdx} {i : Instr} :
    instrOfFields vt op x slot = some i ↔
      ∃ v o, variantOf vt = some v ∧ opOf op = some o ∧ i.cell = ⟨x, slot, v, o⟩ := by
  constructor
  · intro h
    unfold instrOfFields at h
    split at h
    · rename_i v o hv ho
      exact ⟨v, o, hv, ho, cell_of_instrOfCell h⟩
    · cases h
  · rintro ⟨v, o, hv, ho, hcell⟩
    simp only [instrOfFields, hv, ho, ← hcell, instrOfCell_cell]

/-- The fields of `i`'s own word name `i`. -/
theorem instrOfFields_encode (i : Instr) :
    instrOfFields (vtField (encode i)) (opField (encode i)) (xField (encode i))
      (slotField (encode i)) = some i := by
  obtain ⟨-, hx, hslot, hvt, hop⟩ := encode_fields i
  rw [hx, hslot, hvt, hop]
  exact instrOfFields_eq_some_iff.mpr
    ⟨i.variant, i.op, variantOf_variantCode _, opOf_opCode _, rfl⟩

/-- A word without reserved bits whose fields name `i` is put together again by the encoder. -/
theorem encode_of_instrOfFields {w : Word} {i : Instr} (hrsv : rsvField w = 0#15)
    (h : instrOfFields (vtField w) (opField w) (xField w) (slotField w) = some i) :
    encode i = w := by
  obtain ⟨v, o, hv, ho, hcell⟩ := instrOfFields_eq_some_iff.mp h
  rw [encode, hcell, cmdWord, variantCode_of_variantOf hv, opCode_of_opOf ho]
  exact word_of_fields w hrsv

/-! ### When the decoder gives each of its answers (30 R147, R148) -/

theorem decode_encode (i : Instr) : decode (encode i) = .ok i := by
  have hrsv : rsvField (encode i) = 0#15 := (encode_fields i).1
  rcases decode_cases (encode i) with ⟨hne, -⟩ | ⟨-, hnone, -⟩ | ⟨-, j, hj, hdec⟩
  · exact absurd hrsv hne
  · cases (instrOfFields_encode i).symm.trans hnone
  · cases (instrOfFields_encode i).symm.trans hj
    exact hdec

theorem encode_of_decode {w : Word} {i : Instr} (h : decode w = .ok i) : encode i = w := by
  rcases decode_cases w with ⟨-, hdec⟩ | ⟨-, -, hdec⟩ | ⟨hrsv, j, hj, hdec⟩ <;>
    cases hdec.symm.trans h
  exact encode_of_instrOfFields hrsv hj

theorem decode_eq_ok_iff {w : Word} {i : Instr} : decode w = .ok i ↔ encode i = w :=
  ⟨encode_of_decode, fun h => h ▸ decode_encode i⟩

theorem decode_eq_reserved_iff {w : Word} :
    decode w = .error .cmdReserved ↔ rsvField w ≠ 0#15 := by
  rcases decode_cases w with ⟨hrsv, hdec⟩ | ⟨hrsv, -, hdec⟩ | ⟨hrsv, i, -, hdec⟩ <;>
    simp [hrsv, hdec]

theorem decode_eq_undefinedOp_iff {w : Word} :
    decode w = .error .cmdUndefinedOp ↔ rsvField w = 0#15 ∧ ∀ i, encode i ≠ w := by
  simp only [ne_eq, ← decode_eq_ok_iff]
  rcases decode_cases w with ⟨hrsv, hdec⟩ | ⟨hrsv, -, hdec⟩ | ⟨hrsv, i, -, hdec⟩ <;>
    simp [hrsv, hdec]

end Sys2Proof
end

section
/-! SUPPORT. What a step does with a host write of CMD (40 R211), and which commands are refused for
their slot (30 R147 items 3 and 4). -/

namespace Sys2Proof.Machine

theorem resolve_at_cmd (cfg : Config) : resolve cfg cmdOffset 4 = .ok .cmd := rfl

theorem step_write_cmd {s : State} {rest : List Event} {w : Word}
    (hin : s.inputs = .write cmdOffset 4 w :: rest) :
    step s = cmdWrite w (s.afterEvent rest) := by
  rw [step_cons hin]
  simp only [handleEvent, hostWrite, resolve_at_cmd]

/-- A word that spells no command is refused for the decoder's reason and recorded. -/
theorem step_write_cmd_undecoded {s : State} {rest : List Event} {w : Word} {e : DecodeError}
    (hin : s.inputs = .write cmdOffset 4 w :: rest) (hdec : decode w = .error e) :
    step s = .next ((s.afterEvent rest).afterRefusal (decodeRefusal e) cmdOffset (some w)) := by
  rw [step_write_cmd hin]
  simp only [cmdWrite, hdec]
  rfl

theorem step_write_cmd_encode {s : State} {rest : List Event} {i : Instr}
    (hin : s.inputs = .write cmdOffset 4 (encode i) :: rest) :
    step s = exec i (s.afterEvent rest) := by
  rw [step_write_cmd hin]
  simp only [cmdWrite, decode_encode]

theorem exec_slot_range {i : Instr} {s : State} (h : s.cfg.nSlots ≤ i.slot.toNat) :
    exec i s = .next (s.afterRefusal .cmdSlotRange cmdOffset (some (encode i))) := by
  rw [exec_eq_runCommand]
  exact runCommand_range (List.getElem?_eq_none h)

theorem exec_variant_mismatch {i : Instr} {s : State} {c : SlotCfg}
    (h : s.cfg.slots[i.slot.toNat]? = some c) (hv : c.vt ≠ i.variant) :
    exec i s = .next (s.afterRefusal .cmdVariantMismatch cmdOffset (some (encode i))) := by
  rw [exec_eq_runCommand]
  exact runCommand_mismatch h hv

end Sys2Proof.Machine
end

section
/-! SETTLED. The encoding of commands and their refusals (30_encoding.md). -/

namespace Sys2Proof.Proofs

open Sys2Proof Sys2Proof.Machine

/-- Settles O1: the decoder reads each field of the word back, and the fields name the cell. -/
theorem decodeOfEncodeIsTheInstruction : Obligations.DecodeOfEncodeIsTheInstruction :=
  decode_encode

/-- Settles O2: an accepted word has no reserved bits, so its four fields are the whole word. -/
theorem encodeOfDecodeIsTheWord : Obligations.EncodeOfDecodeIsTheWord :=
  fun _ _ => encode_of_decode

/-- Settles O3, by the decoder's three answers. -/
theorem everyWordIsACommandOrNamedRefusal : Obligations.EveryWordIsACommandOrNamedRefusal := by
  intro w
  cases hdec : decode w with
  | error e =>
    cases e with
    | cmdReserved => exact .inl ⟨decode_eq_reserved_iff.mp hdec, rfl⟩
    | cmdUndefinedOp =>
      obtain ⟨hrsv, hno⟩ := decode_eq_undefinedOp_iff.mp hdec
      exact .inr (.inl ⟨hrsv, hno, rfl⟩)
  | ok i =>
    have hw : encode i = w := encode_of_decode hdec
    have hrsv : rsvField w = 0#15 := hw ▸ (encode_fields i).1
    exact .inr (.inr ⟨hrsv, i, hw, rfl⟩)

/-- Settles O23: the first two reasons are the decoder's, the other two are those of `exec` for the
command whose word it is. -/
theorem commandRefusalsInOrder : Obligations.CommandRefusalsInOrder := by
  intro s rest w hin
  refine ⟨fun hrsv => ?reserved, fun hrsv hno => ?undefined, ?range, ?mismatch⟩
  case reserved => exact step_write_cmd_undecoded hin (decode_eq_reserved_iff.mpr hrsv)
  case undefined => exact step_write_cmd_undecoded hin (decode_eq_undefinedOp_iff.mpr ⟨hrsv, hno⟩)
  case range =>
    rintro i rfl hslot
    exact (step_write_cmd_encode hin).trans (exec_slot_range hslot)
  case mismatch =>
    rintro i c rfl hc hv
    exact (step_write_cmd_encode hin).trans (exec_variant_mismatch hc hv)

/-- Settles O4: each word is the one the encoder writes for its command. -/
theorem specExampleWordsDecode : Obligations.SpecExampleWordsDecode := by
  simp only [Obligations.SpecExampleWordsDecode, decode_eq_ok_iff]
  decide

end Sys2Proof.Proofs
end

section
/-! SUPPORT. The Tick Dispatcher slot by slot and in any order (40 R203, R207, R218), the outcome of
every command and event (40 R211, R213, 60 R800), and the steps on a TICK and on a write of CTRL and
of STAT (40 R202, R206, R214). -/

namespace Sys2Proof.Machine

/-! ### The dispatch as single transitions, in any order (40 R203, R207) -/

theorem dispatch_getElem?_of_no_cfg {s : State} {j : Nat} (h : s.cfg.slots[j]? = none) :
    (dispatch s).slots[j]? = s.slots[j]? := by
  simp only [dispatch_slots, dispatchSlots_getElem?, h]

/-- A dispatch gives slot j its record from the parameters and from slot j alone. -/
theorem dispatch_getElem?_congr {s t : State} {j : Nat} (hcfg : t.cfg = s.cfg)
    (hslot : t.slots[j]? = s.slots[j]?) : (dispatch t).slots[j]? = (dispatch s).slots[j]? := by
  simp only [dispatch_slots, dispatchSlots_getElem?, hcfg, hslot]

theorem transitionAt_frame (s : State) (i : Nat) :
    transitionAt s i = { s with slots := (transitionAt s i).slots } := by
  unfold transitionAt
  split
  · rfl
  · rfl

theorem foldl_transitionAt_frame (order : List Nat) (s : State) :
    order.foldl transitionAt s = { s with slots := (order.foldl transitionAt s).slots } := by
  induction order generalizing s with
  | nil => rfl
  | cons i order ih =>
    rw [List.foldl_cons, ih (transitionAt s i), transitionAt_frame s i]

/-- Each slot visited once is left as the dispatch of the first state leaves it: the visits before
it wrote other slots, and the visits after it do not write it again. -/
theorem foldl_transitionAt_getElem? {order : List Nat} (hnodup : order.Nodup) (s : State) (j : Nat) :
    (order.foldl transitionAt s).slots[j]? =
      if j ∈ order then (dispatch s).slots[j]? else s.slots[j]? := by
  induction order generalizing s with
  | nil => rfl
  | cons i order ih =>
    obtain ⟨hi, hrest⟩ := List.nodup_cons.mp hnodup
    rw [List.foldl_cons, ih hrest]
    by_cases hji : j = i
    · subst hji
      rw [if_neg hi, if_pos List.mem_cons_self, transitionAt_getElem?, if_pos rfl]
    · have hkeep : (transitionAt s i).slots[j]? = s.slots[j]? := by
        rw [transitionAt_getElem?, if_neg hji]
      rw [dispatch_getElem?_congr (transitionAt_cfg s i) hkeep, hkeep]
      simp only [List.mem_cons, hji, false_or]

/-- Visiting every slot of the block once, in whatever order, is a dispatch. -/
theorem foldl_transitionAt_eq_dispatch {s : State} {order : List Nat}
    (h : order.Perm (List.range s.cfg.nSlots)) : order.foldl transitionAt s = dispatch s := by
  have hnodup : order.Nodup := h.nodup_iff.mpr List.nodup_range
  have hslots : (order.foldl transitionAt s).slots = (dispatch s).slots := by
    apply List.ext_getElem?
    intro j
    rw [foldl_transitionAt_getElem? hnodup]
    split_ifs with hj
    · rfl
    · have hout : s.cfg.nSlots ≤ j := by simpa [h.mem_iff] using hj
      exact (dispatch_getElem?_of_no_cfg (List.getElem?_eq_none hout)).symm
  rw [foldl_transitionAt_frame, hslots]
  rfl

/-! ### Every command and every event answers a next state (60 R800) -/

theorem exec_total (i : Instr) (s : State) : ∃ t, exec i s = .next t := by
  rcases exec_cases i s with ⟨-, h⟩ | ⟨c, -, ⟨-, h⟩ | ⟨-, -, -, h⟩ | ⟨-, -, h⟩⟩
  · exact ⟨_, h⟩
  · exact ⟨_, h⟩
  · exact ⟨_, h⟩
  · exact ⟨_, h⟩

theorem hostRead_total (off : Offset) (size : Nat) (s : State) :
    ∃ t, hostRead off size s = .next t := by
  rcases hostRead_cases off size s with ⟨g, v, -, -, h⟩ | ⟨reason, h⟩
  · exact ⟨_, h⟩
  · exact ⟨_, h⟩

theorem hostWrite_total (off : Offset) (size : Nat) (v : Word) (s : State) :
    ∃ t, hostWrite off size v s = .next t := by
  rcases hostWrite_cases off size v s with
    ⟨-, h⟩ | ⟨i, -, h⟩ | ⟨k, -, h⟩ | ⟨i, -, h⟩ | ⟨reason, off', h⟩
  · exact ⟨_, h⟩
  · rw [h]
    exact exec_total i s
  · exact ⟨_, h⟩
  · exact ⟨_, h⟩
  · exact ⟨_, h⟩

theorem handleEvent_total (e : Event) (s : State) : ∃ t, handleEvent e s = .next t := by
  cases e with
  | tick => exact ⟨_, rfl⟩
  | read off size => exact hostRead_total off size s
  | write off size v => exact hostWrite_total off size v s

theorem step_total (s : State) : ∃ t, step s = .next t := by
  cases hin : s.inputs with
  | nil => exact ⟨s, step_nil hin⟩
  | cons e rest =>
    rw [step_cons hin]
    exact handleEvent_total e (s.afterEvent rest)

/-! ### The already-excluded form while ticks are enabled (40 R213, 60 R803) -/

/-- The command's slot holds free values made from its record `r`, and the fault is recorded. -/
theorem exec_unexcluded {i : Instr} {s : State} {c : SlotCfg} {r : Slot}
    (h : SlotIs s i.slot i.variant c r) (hx : i.excluded = true) (htie : s.tie = true) :
    exec i s = .next
      { s.withRecord i.slot (tornSlot c s.freeCount r) with
        faults := s.faults ++ [{ kind := .unexcluded, word := encode i }]
        freeCount := s.freeCount + 1 } := by
  rw [exec_eq_runCommand, runCommand_unexcluded h.cfg_eq h.variant_eq hx htie, State.unexcluded,
    h.slotRec_eq]
  rfl

/-! ### What a TICK does (40 R202) -/

theorem step_tick {s : State} {rest : List Event} (hin : s.inputs = .tick :: rest) :
    step s = .next (tickEvent (s.afterEvent rest)) :=
  step_cons hin

theorem tickEvent_enabled {s : State} (htie : s.tie = true) : tickEvent s = dispatch s := by
  simp only [tickEvent, htie, if_true]

theorem tickEvent_latched {s : State} (htie : s.tie = false) (hpend : s.tpend = false) :
    tickEvent s = { s with tpend := true } := by
  simp only [tickEvent, htie, hpend, Bool.false_eq_true, if_false]

theorem tickEvent_lost {s : State} (htie : s.tie = false) (hpend : s.tpend = true) :
    tickEvent s = { s with lostTicks := s.lostTicks + 1 } := by
  simp only [tickEvent, htie, hpend, Bool.false_eq_true, if_false, if_true]

/-! ### What a write of CTRL does (40 R206) -/

theorem resolve_at_ctrl (cfg : Config) : resolve cfg 0x0000#16 4 = .ok .ctrl := rfl

theorem step_write_ctrl {s : State} {rest : List Event} {v : Word}
    (hin : s.inputs = .write 0x0000#16 4 v :: rest) :
    step s = .next (ctrlWrite v (s.afterEvent rest)) := by
  rw [step_cons hin]
  simp only [handleEvent, hostWrite, resolve_at_ctrl]

theorem ctrlWrite_held {v : Word} {s : State} (hv : v.getLsbD 0 = true) (hpend : s.tpend = true) :
    ctrlWrite v s = dispatch { s with tie := true, tpend := false } := by
  simp only [ctrlWrite, hv, hpend, Bool.and_self, if_true]

theorem ctrlWrite_enable {v : Word} {s : State} (hv : v.getLsbD 0 = true)
    (hpend : s.tpend = false) : ctrlWrite v s = { s with tie := true } := by
  simp only [ctrlWrite, hv, hpend, Bool.and_false, Bool.false_eq_true, if_false]

theorem ctrlWrite_disable {v : Word} {s : State} (hv : v.getLsbD 0 = false) :
    ctrlWrite v s = { s with tie := false } := by
  simp only [ctrlWrite, hv, Bool.false_and, Bool.false_eq_true, if_false]

/-! ### What a write of STAT does (40 R214) -/

theorem hasField_expired_iff (v : Variant) :
    hasField v .expired = true ↔ v = .sp ∨ v = .fb ∨ v = .vs ∨ v = .as := by
  simp [hasField]

theorem hasField_tickf_iff (v : Variant) :
    hasField v .tickf = true ↔
      v = .ct ∨ v = .cp ∨ v = .fr ∨ v = .ac ∨ v = .bg ∨ v = .bgo := by
  simp [hasField]

/-- Each flag is cleared where its bit is written and the variant has it (10 R49). -/
theorem clearFlags_eq (v : Variant) (w : Word) (r : Slot) :
    clearFlags v w r = { r with
      expired :=
        if w.getLsbD 1 = true ∧ (v = .sp ∨ v = .fb ∨ v = .vs ∨ v = .as) then false else r.expired
      tickf :=
        if w.getLsbD 2 = true ∧
          (v = .ct ∨ v = .cp ∨ v = .fr ∨ v = .ac ∨ v = .bg ∨ v = .bgo) then false
        else r.tickf } := by
  simp only [clearFlags, Bool.and_eq_true, hasField_expired_iff, hasField_tickf_iff]

theorem statWrite_eq {s : State} {slot : SlotIdx} {u : Variant} {c : SlotCfg} {r : Slot}
    (h : SlotIs s slot u c r) (v : Word) :
    statWrite slot.toNat v s = s.withRecord slot (clearFlags c.vt v r) := by
  rw [statWrite, h.getD_cfg, h.slotRec_eq]
  rfl

theorem step_write_stat {s : State} {rest : List Event} {slot : SlotIdx} {u : Variant}
    {c : SlotCfg} {r : Slot} {v : Word} (h : SlotIs s slot u c r)
    (hin : s.inputs = .write (BitVec.ofNat 16 (0x0100 + 0x20 * slot.toNat)) 4 v :: rest) :
    step s = .next ((s.afterEvent rest).withRecord slot (clearFlags c.vt v r)) := by
  have hres : resolve s.cfg (BitVec.ofNat 16 (0x0100 + 0x20 * slot.toNat)) 4 =
      .ok (.stat slot.toNat) :=
    resolve_window_of_reg h (d := 0) (by decide) rfl rfl
  have hafter : SlotIs (s.afterEvent rest) slot u c r := ⟨h.cfg_eq, h.variant_eq, h.record_eq⟩
  rw [step_cons hin]
  simp only [handleEvent, hostWrite, State.afterEvent_cfg, hres, statWrite_eq hafter]

end Sys2Proof.Machine
end

section
/-! SETTLED. The tick, the dispatch and the commands (40_tick_and_commands.md). -/

namespace Sys2Proof.Proofs

open Sys2Proof Sys2Proof.Machine

/-- Settles O6: each answer of `exec_cases` and of the host's accesses is a next state. -/
theorem theBlockNeverStops : Obligations.TheBlockNeverStops :=
  ⟨step_total, exec_total⟩

/-- Settles O13, by the rule for one slot of a dispatch. -/
theorem dispatchRunsEveryTransitionOnce : Obligations.DispatchRunsEveryTransitionOnce :=
  fun _ => ⟨rfl, dispatchSlots_length .., fun _ _ _ => dispatch_getElem?⟩

/-- Settles O14, by induction on the order: no slot is visited twice and none is left out. -/
theorem dispatchOrderIsNotObservable : Obligations.DispatchOrderIsNotObservable :=
  fun _ _ => foldl_transitionAt_eq_dispatch

/-- Settles O24: the record is the model's `tornSlot`, whose free values stay in their range. -/
theorem excludedFormWithoutExclusionFaults : Obligations.ExcludedFormWithoutExclusionFaults :=
  fun _ s c r h hx htie hrange =>
    ⟨tornSlot c s.freeCount r, inRange_tornSlot hrange, exec_unexcluded h hx htie⟩

/-- Settles O30: the effect of a STEP command is the transition a dispatch runs on the slot. -/
theorem stepCommandIsTheDispatchOfOneSlot : Obligations.StepCommandIsTheDispatchOfOneSlot := by
  intro i s c r hop h hx
  refine ⟨transition s.cfg.vsFwdOvf c r, ?_, dispatch_getElem? h.cfg_eq h.record_eq⟩
  rw [exec_legal h hx, slotEffect_of_step s r hop h.variant_eq]

/-- Settles O5: the word is the command's own, so the write of it runs the command. -/
theorem stepRunsTheDecodedCommand : Obligations.StepRunsTheDecodedCommand := by
  intro s rest w i hin hdec
  obtain rfl : encode i = w := encode_of_decode hdec
  exact step_write_cmd_encode hin

/-- Settles O12, over the three cases of TIE and TPEND. -/
theorem tickDispatchesLatchesOrIsLost : Obligations.TickDispatchesLatchesOrIsLost := by
  intro s rest hin
  rw [step_tick hin]
  refine ⟨fun htie => ?enabled, fun htie hpend => ?latched, fun htie hpend => ?lost⟩
  case enabled => exact congrArg Host.Outcome.next (tickEvent_enabled htie)
  case latched => exact congrArg Host.Outcome.next (tickEvent_latched htie hpend)
  case lost => exact congrArg Host.Outcome.next (tickEvent_lost htie hpend)

/-- Settles O15, over bit 0 of the written word and a held tick. -/
theorem ctrlWriteSetsTieAndDispatchesAHeldTick :
    Obligations.CtrlWriteSetsTieAndDispatchesAHeldTick := by
  intro s rest v hin
  rw [step_write_ctrl hin]
  refine ⟨fun hv hpend => ?held, fun hv hpend => ?enable, fun hv => ?disable⟩
  case held => exact congrArg Host.Outcome.next (ctrlWrite_held hv hpend)
  case enable => exact congrArg Host.Outcome.next (ctrlWrite_enable hv hpend)
  case disable => exact congrArg Host.Outcome.next (ctrlWrite_disable hv)

/-- Settles O16: the write reaches STAT of the slot, and `clearFlags` is what R214 says of it. -/
theorem statWriteClearsOnlyTheFlagsWritten : Obligations.StatWriteClearsOnlyTheFlagsWritten := by
  intro s rest slot c r v h hin
  rw [step_write_stat h hin, clearFlags_eq]

end Sys2Proof.Proofs
end

section
/-! SUPPORT. A legal command in its two forms (40 R212, R213), a command followed by dispatches, the
countdown of a period (00 R13, R14), and the Single-Pulse Timer's transition (41 R300). -/

namespace Sys2Proof.Machine

/-! ### A legal command in both forms (40 R212, R213) -/

/-- Two forms of one command, whose effect on the slot's record is `r'`. That `i` and `j` are the
forms X = 0 and X = 1 of one command is true by definition of each pair. -/
theorem bothForms_of_slotEffect {i j : Instr} {s : State} {c : SlotCfg} {r r' : Slot}
    (h : SlotIs s i.slot i.variant c r) (hr : slotEffect i s c r = r')
    (hplain : i.excluded = false := by rfl) (hslot : j.slot = i.slot := by rfl)
    (hvariant : j.variant = i.variant := by rfl)
    (heffect : slotEffect j s c = slotEffect i s c := by rfl) :
    BothForms i j s (s.withRecord i.slot r') := by
  subst hr
  constructor
  · exact exec_legal h fun hx => absurd (hplain.symm.trans hx) Bool.false_ne_true
  · intro htie
    have hj : SlotIs s j.slot j.variant c r := by rwa [hslot, hvariant]
    rw [exec_legal hj fun _ => htie, hslot, heffect]

/-! ### A legal command followed by dispatches (40 R203) -/

theorem SlotIs.withRecord_getElem? {s : State} {slot : SlotIdx} {v : Variant} {c : SlotCfg}
    {r : Slot} (h : SlotIs s slot v c r) (r' : Slot) :
    (s.withRecord slot r').slots[slot.toNat]? = some r' :=
  List.getElem?_set_self (List.getElem?_eq_some_iff.mp h.record_eq).1

/-- k dispatches after a command, its slot has made k transitions from the command's effect. -/
theorem exec_dispatch_iterate_getElem? {i : Instr} {s t : State} {c : SlotCfg} {r : Slot}
    (h : SlotIs s i.slot i.variant c r) (hx : i.excluded = true → s.tie = false)
    (ht : exec i s = .next t) (k : Nat) :
    (dispatch^[k] t).slots[i.slot.toNat]? =
      some ((transition s.cfg.vsFwdOvf c)^[k] (slotEffect i s c r)) := by
  cases (exec_legal h hx).symm.trans ht
  exact (dispatch_iterate_getElem? (s := s.withRecord i.slot (slotEffect i s c r)) h.cfg_eq
    (h.withRecord_getElem? _) k).2

/-! ### Counting down a period (00 R13, R14) -/

/-- The number of transitions that a counter loaded with `v` counts: 0 acts as M (00 R14). -/
def effectivePeriod (M v : Nat) : Nat := if v = 0 then M else v

theorem effectivePeriod_pos {M : Nat} (hM : 0 < M) (v : Nat) : 0 < effectivePeriod M v := by
  unfold effectivePeriod
  split_ifs with hv
  · exact hM
  · exact Nat.pos_of_ne_zero hv

theorem effectivePeriod_le {M v : Nat} (hv : v < M) : effectivePeriod M v ≤ M := by
  unfold effectivePeriod
  split_ifs
  · exact le_refl M
  · exact hv.le

theorem effectivePeriod_mod {M v : Nat} (hv : v < M) : effectivePeriod M v % M = v := by
  unfold effectivePeriod
  split_ifs with hzero
  · rw [Nat.mod_self, hzero]
  · exact Nat.mod_eq_of_lt hv

/-- A counter with d transitions to go, d at most M, has d - 1 after the next. -/
theorem dec_mod_eq_sub_one {M d : Nat} (hpos : 0 < d) (hd : d ≤ M) : dec M (d % M) = d - 1 := by
  rcases hd.eq_or_lt with rfl | hlt
  · rw [dec, Nat.mod_self, Nat.zero_add, Nat.mod_eq_of_lt (Nat.sub_one_lt_of_lt hpos)]
  · rw [dec, Nat.mod_eq_of_lt hlt, Nat.sub_add_comm hpos, Nat.add_mod_right,
      Nat.mod_eq_of_lt (by omega)]

/-! ### The Single-Pulse Timer (41 R300, R301) -/

theorem tSp_inactive {c : SlotCfg} {r : Slot} (h : r.active = false) : tSp c r = r := by
  simp only [tSp, h, Bool.false_eq_true, if_false]

theorem tSp_expires {c : SlotCfg} {r : Slot} (h : r.active = true)
    (hcnt : dec (modulus c) r.cnt = 0) :
    tSp c r = { r with cnt := 0, active := false, expired := true } := by
  simp only [tSp, h, hcnt, if_true, Slot.expire]

theorem tSp_counts {c : SlotCfg} {r : Slot} (h : r.active = true)
    (hcnt : dec (modulus c) r.cnt ≠ 0) : tSp c r = { r with cnt := dec (modulus c) r.cnt } := by
  simp only [tSp, h, hcnt, if_true, if_false]

theorem tSp_eq (c : SlotCfg) (r : Slot) :
    tSp c r =
      if r.active = false then r
      else if dec (modulus c) r.cnt = 0 then { r with cnt := 0, active := false, expired := true }
      else { r with cnt := dec (modulus c) r.cnt } := by
  split_ifs with hinactive hcnt
  · exact tSp_inactive hinactive
  · exact tSp_expires (Bool.eq_true_of_not_eq_false hinactive) hcnt
  · exact tSp_counts (Bool.eq_true_of_not_eq_false hinactive) hcnt

theorem transition_sp {ovf : FwdOverflow} {c : SlotCfg} (h : c.vt = .sp) :
    transition ovf c = tSp c := by
  funext r
  simp only [transition, h]

/-- The record of an SP slot k transitions after it was armed with period `p`: armed with p - k to
go (M of them is the counter 0), then expired for good. -/
def spAfter (c : SlotCfg) (r : Slot) (p k : Nat) : Slot :=
  if k < p then { r with cnt := (p - k) % modulus c, active := true, expired := false }
  else { r with cnt := 0, active := false, expired := true }

theorem spAfter_armed {c : SlotCfg} {r : Slot} {p k : Nat} (h : k < p) :
    spAfter c r p k =
      { r with cnt := (p - k) % modulus c, active := true, expired := false } :=
  if_pos h

theorem spAfter_expired {c : SlotCfg} {r : Slot} {p k : Nat} (h : p ≤ k) :
    spAfter c r p k = { r with cnt := 0, active := false, expired := true } :=
  if_neg h.not_gt

theorem spSet_eq_spAfter (c : SlotCfg) (s : State) (r : Slot) :
    spSet c s r = spAfter c r (effectivePeriod (modulus c) (argTrunc c s 0)) 0 := by
  rw [spAfter_armed (effectivePeriod_pos (modulus_pos c) _), Nat.sub_zero,
    effectivePeriod_mod (argTrunc_lt c s 0), spSet]

theorem tSp_spAfter {c : SlotCfg} {p : Nat} (hp : p ≤ modulus c) (r : Slot) (k : Nat) :
    tSp c (spAfter c r p k) = spAfter c r p (k + 1) := by
  rcases Nat.lt_or_ge k p with harmed | hexpired
  · have hdec : dec (modulus c) ((p - k) % modulus c) = p - k - 1 :=
      dec_mod_eq_sub_one (by omega) (by omega)
    rw [spAfter_armed harmed]
    rcases Nat.lt_or_ge (k + 1) p with hnext | hlast
    · have hmod : (p - (k + 1)) % modulus c = p - k - 1 := Nat.mod_eq_of_lt (by omega)
      rw [spAfter_armed hnext, hmod, tSp_counts rfl (by rw [hdec]; omega), hdec]
    · rw [spAfter_expired hlast, tSp_expires rfl (by rw [hdec]; omega)]
  · rw [spAfter_expired hexpired, spAfter_expired (by omega), tSp_inactive rfl]

theorem tSp_iterate_spAfter {c : SlotCfg} {p : Nat} (hp : p ≤ modulus c) (r : Slot) (k : Nat) :
    (tSp c)^[k] (spAfter c r p 0) = spAfter c r p k := by
  induction k with
  | zero => rfl
  | succ k ih => rw [Function.iterate_succ_apply', ih, tSp_spAfter hp]

theorem spAfter_flags (c : SlotCfg) (r : Slot) (p k : Nat) :
    ((spAfter c r p k).expired = true ↔ p ≤ k) ∧ ((spAfter c r p k).active = true ↔ k < p) := by
  rcases Nat.lt_or_ge k p with harmed | hexpired
  · simp [spAfter_armed harmed, harmed]
  · simp [spAfter_expired hexpired, hexpired]

/-- k dispatches after SP.SET. -/
theorem spSet_dispatch_iterate_getElem? {s t : State} {slot : SlotIdx} {c : SlotCfg} {r : Slot}
    (h : SlotIs s slot .sp c r) (ht : exec (.spSet slot) s = .next t) (k : Nat) :
    (dispatch^[k] t).slots[slot.toNat]? =
      some (spAfter c r (effectivePeriod (modulus c) (argTrunc c s 0)) k) := by
  have hp := effectivePeriod_le (argTrunc_lt c s 0)
  calc (dispatch^[k] t).slots[slot.toNat]?
      = some ((transition s.cfg.vsFwdOvf c)^[k] (spSet c s r)) :=
        exec_dispatch_iterate_getElem? (i := .spSet slot) h nofun ht k
    _ = some (spAfter c r (effectivePeriod (modulus c) (argTrunc c s 0)) k) := by
        rw [transition_sp h.variant_eq, spSet_eq_spAfter, tSp_iterate_spAfter hp]

end Sys2Proof.Machine
end

section
/-! SETTLED. The Single-Pulse Timer (41_single_pulse.md), and the disarming and clearing that the other
one-shots share with it. -/

namespace Sys2Proof.Proofs

open Sys2Proof Sys2Proof.Machine

/-- Settles O55, by the record after every number of dispatches, whose period R14 makes M for 0. -/
theorem spExpiresOnExactlyThePeriodthDispatch :
    Obligations.SpExpiresOnExactlyThePeriodthDispatch := by
  intro s t slot c r p k h hp ht
  obtain rfl : p = effectivePeriod (modulus c) (argTrunc c s 0) := hp
  exact ⟨_, spSet_dispatch_iterate_getElem? h ht k, spAfter_flags c r _ k⟩

/-- Settles O31: each of the commands has the effect `Slot.disarmOneShot`. -/
theorem oneShotStopAndResetDisarm : Obligations.OneShotStopAndResetDisarm := by
  intro s slot c r
  refine ⟨fun h => ⟨?spStop, ?spReset⟩, fun h => ⟨?fbStop, ?fbReset⟩,
    fun h => ⟨?vsStop, ?vsReset⟩⟩
  case spStop => exact bothForms_of_slotEffect h rfl
  case spReset => exact bothForms_of_slotEffect h rfl
  case fbStop => exact bothForms_of_slotEffect h rfl
  case fbReset => exact bothForms_of_slotEffect h rfl
  case vsStop => exact bothForms_of_slotEffect h rfl
  case vsReset => exact bothForms_of_slotEffect h rfl

/-- Settles O34: each of the commands has the effect `Slot.clearExpired`. -/
theorem clearOfOneShotsClearsExpired : Obligations.ClearOfOneShotsClearsExpired := by
  intro s slot c r
  refine ⟨fun h => ?sp, fun h => ?fb, fun h => ?vs, fun h => ?as⟩
  case sp => exact bothForms_of_slotEffect h rfl
  case fb => exact bothForms_of_slotEffect h rfl
  case vs => exact bothForms_of_slotEffect h rfl
  case as => exact bothForms_of_slotEffect h rfl

/-- Settles O41: the effect is `spSet`, with ARG0 truncated to the slot's width. -/
theorem spSetArms : Obligations.SpSetArms := by
  intro s slot c r h
  exact bothForms_of_slotEffect h rfl

/-- Settles O48: the effect is the transition `tSp`, over its three cases. -/
theorem spStepCountsDownAndExpires : Obligations.SpStepCountsDownAndExpires := by
  intro s slot c r h
  exact bothForms_of_slotEffect h (tSp_eq c r)

end Sys2Proof.Proofs
end

section
/-! SUPPORT. The Forward/Backward timers: the transition that FB and VS share (42 R400, R420), the
forward threshold test (42 R406, R426), and an FB slot counting forward (42 R400, R401). -/

namespace Sys2Proof.Machine

/-! ### The threshold test (42 R400, R406, R420, R426) -/

theorem reachThreshold_reached {r : Slot} (h : r.s0 ≤ r.cnt) :
    reachThreshold r = { r with active := false, expired := true } :=
  if_pos h

theorem reachThreshold_below_setting {r : Slot} (h : r.cnt < r.s0) : reachThreshold r = r :=
  if_neg h.not_ge

theorem recheckThreshold_eq (r : Slot) :
    recheckThreshold r =
      if r.active = true ∧ r.dir = fwd ∧ r.s0 ≤ r.cnt then
        { r with active := false, expired := true }
      else r := by
  simp only [recheckThreshold, reachThreshold, Slot.expire, Bool.and_eq_true, decide_eq_true_eq,
    ← ite_and, and_assoc]

/-! ### The shared transition (42 R400, R420) -/

/-- The transition of FB and VS, whose counter moves forward to `up` or backward to `down`. -/
def moveCounter (up down : Nat) (r : Slot) : Slot :=
  if r.active then
    if r.dir = fwd then reachThreshold { r with cnt := up } else { r with cnt := down }
  else r

theorem tFb_eq_moveCounter (c : SlotCfg) (r : Slot) :
    tFb c r = moveCounter (inc (modulus c) r.cnt 1) (satSub r.cnt 1) r := rfl

theorem tVs_eq_moveCounter (ovf : FwdOverflow) (c : SlotCfg) (r : Slot) :
    tVs ovf c r =
      moveCounter (vsForward ovf (modulus c) r.cnt r.s1) (satSub r.cnt r.s2) r := rfl

section
variable {up down : Nat} {r : Slot}

theorem moveCounter_inactive (h : r.active = false) : moveCounter up down r = r := by
  simp only [moveCounter, h, Bool.false_eq_true, if_false]

theorem moveCounter_forward (h : r.active = true) (hdir : r.dir = fwd) :
    moveCounter up down r = reachThreshold { r with cnt := up } := by
  simp only [moveCounter, h, hdir, if_true]

theorem moveCounter_backward (h : r.active = true) (hdir : r.dir ≠ fwd) :
    moveCounter up down r = { r with cnt := down } := by
  simp only [moveCounter, h, hdir, if_true, if_false]

end

theorem moveCounter_eq (up down : Nat) (r : Slot) :
    moveCounter up down r =
      if r.active = false then r
      else if r.dir = fwd then
        if r.s0 ≤ up then { r with cnt := up, active := false, expired := true }
        else { r with cnt := up }
      else { r with cnt := down } := by
  split_ifs with hinactive hdir hreached
  · exact moveCounter_inactive hinactive
  · rw [moveCounter_forward (Bool.eq_true_of_not_eq_false hinactive) hdir,
      reachThreshold_reached hreached]
  · rw [moveCounter_forward (Bool.eq_true_of_not_eq_false hinactive) hdir,
      reachThreshold_below_setting (Nat.lt_of_not_ge hreached)]
  · exact moveCounter_backward (Bool.eq_true_of_not_eq_false hinactive) hdir

theorem vsForward_eq (ovf : FwdOverflow) (M v d : Nat) :
    vsForward ovf M v d =
      if v + d ≤ M - 1 then v + d else if ovf = .wrap then v + d - M else M - 1 := by
  cases ovf <;> rfl

/-! ### An FB slot counting forward (42 R400, R401) -/

theorem inc_one_of_lt {M v : Nat} (h : v + 1 < M) : inc M v 1 = v + 1 :=
  Nat.mod_eq_of_lt h

theorem tFb_inactive {c : SlotCfg} {r : Slot} (h : r.active = false) : tFb c r = r :=
  moveCounter_inactive h

theorem tFb_forward {c : SlotCfg} {r : Slot} {n : Nat} (h : r.active = true) (hdir : r.dir = fwd)
    (hcnt : inc (modulus c) r.cnt 1 = n) : tFb c r = reachThreshold { r with cnt := n } := by
  rw [tFb_eq_moveCounter, moveCounter_forward h hdir, hcnt]

theorem transition_fb {ovf : FwdOverflow} {c : SlotCfg} (h : c.vt = .fb) :
    transition ovf c = tFb c := by
  funext r
  simp only [transition, h]

/-- The record of an FB slot k transitions after it was armed forward with the setting of `r`: armed
with the counter k, then expired for good. The first test is of the counter 1, so a setting of 0
acts as 1. -/
def fbForwardAfter (r : Slot) (k : Nat) : Slot :=
  if k < max r.s0 1 then { r with cnt := k, active := true, expired := false }
  else { r with cnt := max r.s0 1, active := false, expired := true }

theorem fbForwardAfter_armed {r : Slot} {k : Nat} (h : k < max r.s0 1) :
    fbForwardAfter r k = { r with cnt := k, active := true, expired := false } :=
  if_pos h

theorem fbForwardAfter_expired {r : Slot} {k : Nat} (h : max r.s0 1 ≤ k) :
    fbForwardAfter r k = { r with cnt := max r.s0 1, active := false, expired := true } :=
  if_neg h.not_gt

theorem fbSet_eq_fbForwardAfter (c : SlotCfg) (s : State) (r : Slot) :
    fbSet c s r = fbForwardAfter { r with s0 := argTrunc c s 0, dir := argBit s 1 } 0 := by
  rw [fbForwardAfter_armed (lt_max_of_lt_right Nat.one_pos), fbSet]

theorem tFb_fbForwardAfter {c : SlotCfg} {r : Slot} (hdir : r.dir = fwd)
    (hp : max r.s0 1 < modulus c) (k : Nat) :
    tFb c (fbForwardAfter r k) = fbForwardAfter r (k + 1) := by
  rcases Nat.lt_or_ge k (max r.s0 1) with harmed | hexpired
  · have hnowrap : k + 1 < modulus c := by omega
    have hstep : tFb c { r with cnt := k, active := true, expired := false } =
        reachThreshold { r with cnt := k + 1, active := true, expired := false } :=
      tFb_forward rfl hdir (inc_one_of_lt hnowrap)
    rw [fbForwardAfter_armed harmed, hstep]
    rcases Nat.lt_or_ge (k + 1) (max r.s0 1) with hnext | hlast
    · have hbelow : k + 1 < r.s0 := by omega
      rw [fbForwardAfter_armed hnext, reachThreshold_below_setting hbelow]
    · have hend : k + 1 = max r.s0 1 := by omega
      rw [fbForwardAfter_expired hlast, hend, reachThreshold_reached (le_max_left r.s0 1)]
  · rw [fbForwardAfter_expired hexpired, fbForwardAfter_expired (by omega),
      tFb_inactive rfl]

theorem tFb_iterate_fbForwardAfter {c : SlotCfg} {r : Slot} (hdir : r.dir = fwd)
    (hp : max r.s0 1 < modulus c) (k : Nat) :
    (tFb c)^[k] (fbForwardAfter r 0) = fbForwardAfter r k := by
  induction k with
  | zero => rfl
  | succ k ih => rw [Function.iterate_succ_apply', ih, tFb_fbForwardAfter hdir hp]

theorem fbForwardAfter_fields (r : Slot) (k : Nat) :
    ((fbForwardAfter r k).expired = true ↔ max r.s0 1 ≤ k) ∧
      ((fbForwardAfter r k).active = true ↔ k < max r.s0 1) ∧
      (fbForwardAfter r k).cnt = min k (max r.s0 1) := by
  rcases Nat.lt_or_ge k (max r.s0 1) with harmed | hexpired
  · simp only [fbForwardAfter_armed harmed, harmed, harmed.not_ge, Bool.false_eq_true,
      min_eq_left harmed.le, and_self]
  · simp only [fbForwardAfter_expired hexpired, hexpired, hexpired.not_gt, Bool.false_eq_true,
      min_eq_right hexpired, and_self]

/-- k dispatches after a forward FB.SET. -/
theorem fbSet_forward_dispatch_iterate_getElem? {s t : State} {slot : SlotIdx} {c : SlotCfg}
    {r : Slot} (h : SlotIs s slot .fb c r) (hcw : 1 ≤ c.cw) (hdir : argBit s 1 = fwd)
    (ht : exec (.fbSet slot) s = .next t) (k : Nat) :
    (dispatch^[k] t).slots[slot.toNat]? =
      some (fbForwardAfter { r with s0 := argTrunc c s 0, dir := argBit s 1 } k) := by
  have hmodulus : 1 < modulus c := Nat.one_lt_two_pow (Nat.ne_of_gt hcw)
  have hp : max (argTrunc c s 0) 1 < modulus c := Nat.max_lt.mpr ⟨argTrunc_lt c s 0, hmodulus⟩
  calc (dispatch^[k] t).slots[slot.toNat]?
      = some ((transition s.cfg.vsFwdOvf c)^[k] (fbSet c s r)) :=
        exec_dispatch_iterate_getElem? (i := .fbSet slot) h nofun ht k
    _ = some (fbForwardAfter { r with s0 := argTrunc c s 0, dir := argBit s 1 } k) := by
        rw [transition_fb h.variant_eq, fbSet_eq_fbForwardAfter,
          tFb_iterate_fbForwardAfter hdir hp]

end Sys2Proof.Machine
end

section
/-! SETTLED. The Forward/Backward timers (42_forward_backward.md). -/

namespace Sys2Proof.Proofs

open Sys2Proof Sys2Proof.Machine

/-- Settles O56, by the record after every number of dispatches: the setting is below M, so the
counter gets there before it could wrap. -/
theorem fbForwardExpiresOnExactlyTheSettingthDispatch :
    Obligations.FbForwardExpiresOnExactlyTheSettingthDispatch := by
  intro s t slot c r p k h hcw hdir hp ht
  obtain rfl : p = max (argTrunc c s 0) 1 := hp
  exact ⟨_, fbSet_forward_dispatch_iterate_getElem? h hcw hdir ht k, fbForwardAfter_fields _ k⟩

/-- Settles O37: the effects are `fbRevive` and `vsRevive`. -/
theorem reviveRearmsBackward : Obligations.ReviveRearmsBackward := by
  intro s slot c r
  refine ⟨fun h => ?fb, fun h => ?vs⟩
  case fb => exact bothForms_of_slotEffect h rfl
  case vs => exact bothForms_of_slotEffect h rfl

/-- Settles O38: both effects are `recheckThreshold` of the record with its new setting. -/
theorem thresholdChangeReevaluates : Obligations.ThresholdChangeReevaluates := by
  intro s slot c r
  have hrecheck := recheckThreshold_eq { r with s0 := argTrunc c s 0 }
  refine ⟨fun h => ?fb, fun h => ?vs⟩
  case fb => exact bothForms_of_slotEffect h hrecheck
  case vs => exact bothForms_of_slotEffect h hrecheck

/-- Settles O42: the effect is `fbSet`, with ARG0 truncated to the slot's width. -/
theorem fbSetArms : Obligations.FbSetArms := by
  intro s slot c r h
  exact bothForms_of_slotEffect h rfl

/-- Settles O43: the effect is `vsSet`, with ARG0, ARG2 and ARG3 truncated to the slot's width. -/
theorem vsSetArms : Obligations.VsSetArms := by
  intro s slot c r h
  exact bothForms_of_slotEffect h rfl

/-- Settles O49: the effect is the transition `tFb`, over the cases of `moveCounter`. -/
theorem fbStepCountsTowardsItsEnd : Obligations.FbStepCountsTowardsItsEnd := by
  intro s slot c r h
  exact bothForms_of_slotEffect h ((tFb_eq_moveCounter c r).trans (moveCounter_eq _ _ r))

/-- Settles O50: the effect is the transition `tVs`, over the cases of `moveCounter`, and the number
of the statement is the forward step `vsForward`. -/
theorem vsStepMovesByItsSteps : Obligations.VsStepMovesByItsSteps := by
  intro s slot c r n h hn
  obtain rfl : n = vsForward s.cfg.vsFwdOvf (modulus c) r.cnt r.s1 :=
    hn.trans (vsForward_eq ..).symm
  exact bothForms_of_slotEffect h ((tVs_eq_moveCounter _ c r).trans (moveCounter_eq _ _ r))

end Sys2Proof.Proofs
end

section
/-! SUPPORT. The continuous timers: the countdown that reloads (43 R500, R520, R540), and a CT slot
repeating its period (43 R500, R501). -/

namespace Sys2Proof.Machine

/-! ### The reloading countdown (43 R500, R520, R540) -/

theorem countdownReload_reloads {c : SlotCfg} {period : Nat} {r : Slot}
    (h : dec (modulus c) r.cnt = 0) :
    countdownReload c period r = { r with cnt := period, tickf := true } :=
  if_pos h

theorem countdownReload_counts {c : SlotCfg} {period : Nat} {r : Slot}
    (h : dec (modulus c) r.cnt ≠ 0) :
    countdownReload c period r = { r with cnt := dec (modulus c) r.cnt } :=
  if_neg h

theorem countdownReload_eq (c : SlotCfg) (period : Nat) (r : Slot) :
    countdownReload c period r =
      if dec (modulus c) r.cnt = 0 then { r with cnt := period, tickf := true }
      else { r with cnt := dec (modulus c) r.cnt } := by
  split_ifs with hcnt
  · exact countdownReload_reloads hcnt
  · exact countdownReload_counts hcnt

/-- Only a reload raises the tick flag, and the countdown never clears it. -/
theorem countdownReload_tickf_iff (c : SlotCfg) (period : Nat) (r : Slot) :
    (countdownReload c period r).tickf = true ↔ dec (modulus c) r.cnt = 0 ∨ r.tickf = true := by
  rw [countdownReload_eq]
  split_ifs with hcnt
  · exact iff_of_true rfl (.inl hcnt)
  · exact (or_iff_right hcnt).symm

/-- The transition that CT and CP share, which differ in the period. -/
theorem countdownReload_if_active (c : SlotCfg) (period : Nat) (r : Slot) :
    (if r.active = true then countdownReload c period r else r) =
      if r.active = false then r
      else if dec (modulus c) r.cnt = 0 then { r with cnt := period, tickf := true }
      else { r with cnt := dec (modulus c) r.cnt } := by
  rw [countdownReload_eq]
  cases hactive : r.active
  case false => rfl
  case true => rfl

theorem tCt_active {c : SlotCfg} {r : Slot} (h : r.active = true) :
    tCt c r = countdownReload c r.s0 r :=
  if_pos h

/-! ### A CT slot repeating its period (43 R500, R501) -/

theorem transition_ct {ovf : FwdOverflow} {c : SlotCfg} (h : c.vt = .ct) :
    transition ovf c = tCt c := by
  funext r
  simp only [transition, h]

/-- The transitions to go until the next reload, k transitions after a load of period `p`. -/
def untilReload (p k : Nat) : Nat := p - k % p

section
variable {p k M : Nat}

theorem untilReload_pos (hp : 0 < p) : 0 < untilReload p k :=
  Nat.sub_pos_of_lt (Nat.mod_lt k hp)

theorem untilReload_le : untilReload p k ≤ p := Nat.sub_le _ _

theorem untilReload_of_dvd (h : p ∣ k) : untilReload p k = p := by
  rw [untilReload, Nat.mod_eq_zero_of_dvd h, Nat.sub_zero]

theorem untilReload_eq_one_iff (hp : 0 < p) : untilReload p k = 1 ↔ p ∣ k + 1 := by
  obtain ⟨n, rfl⟩ := Nat.exists_eq_add_one.mpr hp
  have hlt := Nat.mod_lt k hp
  rw [Nat.dvd_iff_mod_eq_zero, Nat.succ_mod_succ_eq_zero_iff, untilReload]
  omega

theorem untilReload_succ (hp : 0 < p) (h : ¬ p ∣ k + 1) :
    untilReload p (k + 1) = untilReload p k - 1 := by
  have hnot_one : p - k % p ≠ 1 := mt (untilReload_eq_one_iff hp).mp h
  have hlt := Nat.mod_lt k hp
  have hmod : (k + 1) % p = k % p + 1 := by
    rw [← Nat.mod_add_mod, Nat.mod_eq_of_lt (by omega)]
  rw [untilReload, untilReload, hmod, Nat.sub_sub]

/-- The counter that holds the transitions to go counts to 0 exactly where the period ends. -/
theorem dec_untilReload_eq_zero_iff (hp : 0 < p) (hM : p ≤ M) :
    dec M (untilReload p k % M) = 0 ↔ p ∣ k + 1 := by
  have hpos := untilReload_pos (k := k) hp
  rw [dec_mod_eq_sub_one hpos (untilReload_le.trans hM), ← untilReload_eq_one_iff hp]
  omega

theorem dec_untilReload_of_not_dvd (hp : 0 < p) (hM : p ≤ M) (h : ¬ p ∣ k + 1) :
    dec M (untilReload p k % M) = untilReload p (k + 1) % M := by
  have hnext : untilReload p (k + 1) = untilReload p k - 1 := untilReload_succ hp h
  have hle := (untilReload_le (p := p) (k := k)).trans hM
  rw [dec_mod_eq_sub_one (untilReload_pos hp) hle, hnext,
    Nat.mod_eq_of_lt (Nat.sub_one_lt_of_le (untilReload_pos hp) hle)]

end

/-- The record of a CT slot k transitions after it was armed with period `p`: the counter holds the
transitions to go (M of them is the counter 0), and the first reload sets the flag for good. -/
def ctAfter (c : SlotCfg) (r : Slot) (p k : Nat) : Slot :=
  { r with
    cnt := untilReload p k % modulus c, s0 := p % modulus c, active := true
    tickf := decide (p ≤ k) }

theorem ctSet_eq_ctAfter (c : SlotCfg) (s : State) (r : Slot) :
    ctSet c s r = ctAfter c r (effectivePeriod (modulus c) (argTrunc c s 0)) 0 := by
  have hpos := effectivePeriod_pos (modulus_pos c) (argTrunc c s 0)
  rw [ctAfter, untilReload_of_dvd (dvd_zero _), effectivePeriod_mod (argTrunc_lt c s 0),
    decide_eq_false hpos.not_ge, ctSet]

section
variable {c : SlotCfg} {p : Nat} (hpos : 0 < p) (hp : p ≤ modulus c) (r : Slot) (k : Nat)
include hpos hp

theorem tCt_ctAfter : tCt c (ctAfter c r p k) = ctAfter c r p (k + 1) := by
  rw [tCt_active rfl]
  by_cases hreload : p ∣ k + 1
  · have hzero : dec (modulus c) (ctAfter c r p k).cnt = 0 :=
      (dec_untilReload_eq_zero_iff hpos hp).mpr hreload
    have hflag : p ≤ k + 1 := Nat.le_of_dvd k.succ_pos hreload
    rw [countdownReload_reloads hzero]
    simp only [ctAfter, untilReload_of_dvd hreload, hflag, decide_true]
  · have hcount : dec (modulus c) (ctAfter c r p k).cnt = untilReload p (k + 1) % modulus c :=
      dec_untilReload_of_not_dvd hpos hp hreload
    have hnonzero : dec (modulus c) (ctAfter c r p k).cnt ≠ 0 :=
      mt (dec_untilReload_eq_zero_iff hpos hp).mp hreload
    have hne : p ≠ k + 1 := fun heq => hreload heq.dvd
    have hflag : p ≤ k + 1 ↔ p ≤ k := by omega
    rw [countdownReload_counts hnonzero, hcount]
    simp only [ctAfter, hflag]

theorem tCt_iterate_ctAfter : (tCt c)^[k] (ctAfter c r p 0) = ctAfter c r p k := by
  induction k with
  | zero => rfl
  | succ k ih => rw [Function.iterate_succ_apply', ih, tCt_ctAfter hpos hp]

/-- With its flag cleared, the slot raises it again in the next transition exactly where the period
ends. -/
theorem tCt_ctAfter_cleared_tickf_iff :
    (tCt c { ctAfter c r p k with tickf := false }).tickf = true ↔ p ∣ k + 1 := by
  rw [tCt_active rfl, countdownReload_tickf_iff, or_iff_left Bool.false_ne_true]
  exact dec_untilReload_eq_zero_iff hpos hp

end

/-- k dispatches after CT.SET. -/
theorem ctSet_dispatch_iterate_getElem? {s t : State} {slot : SlotIdx} {c : SlotCfg} {r : Slot}
    (h : SlotIs s slot .ct c r) (ht : exec (.ctSet slot) s = .next t) (k : Nat) :
    (dispatch^[k] t).slots[slot.toNat]? =
      some (ctAfter c r (effectivePeriod (modulus c) (argTrunc c s 0)) k) := by
  have hpos := effectivePeriod_pos (modulus_pos c) (argTrunc c s 0)
  have hp := effectivePeriod_le (argTrunc_lt c s 0)
  calc (dispatch^[k] t).slots[slot.toNat]?
      = some ((transition s.cfg.vsFwdOvf c)^[k] (ctSet c s r)) :=
        exec_dispatch_iterate_getElem? (i := .ctSet slot) h nofun ht k
    _ = some (ctAfter c r (effectivePeriod (modulus c) (argTrunc c s 0)) k) := by
        rw [transition_ct h.variant_eq, ctSet_eq_ctAfter, tCt_iterate_ctAfter hpos hp]

end Sys2Proof.Machine
end

section
/-! SETTLED. The continuous timers (43_continuous.md), the disarming and clearing that the other
repeating timers share with them, and the commands of CT and VS that write one setting. -/

namespace Sys2Proof.Proofs

open Sys2Proof Sys2Proof.Machine

/-- Settles O57, by the record after every number of dispatches, whose period R14 makes M for 0. -/
theorem ctFlagsExactlyEveryPeriod : Obligations.CtFlagsExactlyEveryPeriod := by
  intro s t slot c r p k h hp ht
  obtain rfl : p = effectivePeriod (modulus c) (argTrunc c s 0) := hp
  have hpos := effectivePeriod_pos (modulus_pos c) (argTrunc c s 0)
  have hle := effectivePeriod_le (argTrunc_lt c s 0)
  exact ⟨_, ctSet_dispatch_iterate_getElem? h ht k, rfl,
    tCt_ctAfter_cleared_tickf_iff hpos hle r k, decide_eq_true_iff⟩

/-- Settles O32: each of the commands has the effect `Slot.disarmRepeating`. -/
theorem repeatingStopAndResetDisarm : Obligations.RepeatingStopAndResetDisarm := by
  intro s slot c r
  refine ⟨fun h => ⟨?ctStop, ?ctReset⟩, fun h => ⟨?cpStop, ?cpReset⟩,
    fun h => ⟨?bgStop, ?bgReset⟩, fun h => ⟨?bgoStop, ?bgoReset⟩⟩
  case ctStop => exact bothForms_of_slotEffect h rfl
  case ctReset => exact bothForms_of_slotEffect h rfl
  case cpStop => exact bothForms_of_slotEffect h rfl
  case cpReset => exact bothForms_of_slotEffect h rfl
  case bgStop => exact bothForms_of_slotEffect h rfl
  case bgReset => exact bothForms_of_slotEffect h rfl
  case bgoStop => exact bothForms_of_slotEffect h rfl
  case bgoReset => exact bothForms_of_slotEffect h rfl

/-- Settles O35: each of the commands has the effect `Slot.clearTick`. -/
theorem clearOfRepeatersClearsTickf : Obligations.ClearOfRepeatersClearsTickf := by
  intro s slot c r
  refine ⟨fun h => ?ct, fun h => ?cp, fun h => ?fr, fun h => ?ac, fun h => ?bg, fun h => ?bgo⟩
  case ct => exact bothForms_of_slotEffect h rfl
  case cp => exact bothForms_of_slotEffect h rfl
  case fr => exact bothForms_of_slotEffect h rfl
  case ac => exact bothForms_of_slotEffect h rfl
  case bg => exact bothForms_of_slotEffect h rfl
  case bgo => exact bothForms_of_slotEffect h rfl

/-- Settles O39: the effects are `ctChgset`, `vsChgstepf` and `vsChgstepb`, with ARG0 truncated to
the slot's width. -/
theorem periodAndStepChangesWriteOneSetting : Obligations.PeriodAndStepChangesWriteOneSetting := by
  intro s slot c r
  refine ⟨fun h => ?ctChgset, fun h => ⟨?vsChgstepf, ?vsChgstepb⟩⟩
  case ctChgset => exact bothForms_of_slotEffect h rfl
  case vsChgstepf => exact bothForms_of_slotEffect h rfl
  case vsChgstepb => exact bothForms_of_slotEffect h rfl

/-- Settles O44: the effects are `ctSet`, `cpSet` and `frReset`, with ARG0 truncated to the slot's
width. -/
theorem continuousSetAndFrResetLoadThePeriod :
    Obligations.ContinuousSetAndFrResetLoadThePeriod := by
  intro s slot c r
  refine ⟨fun h => ?ctSet, fun h => ?cpSet, fun h => ?frReset⟩
  case ctSet => exact bothForms_of_slotEffect h rfl
  case cpSet => exact bothForms_of_slotEffect h rfl
  case frReset => exact bothForms_of_slotEffect h rfl

/-- Settles O51: each effect is the variant's transition, over the two cases of `countdownReload`,
with an active test for CT and CP only. -/
theorem continuousStepsReloadAtZero : Obligations.ContinuousStepsReloadAtZero := by
  intro s slot c r
  refine ⟨fun h => ?ct, fun h => ?cp, fun h => ?fr⟩
  case ct => exact bothForms_of_slotEffect h (countdownReload_if_active c r.s0 r)
  case cp => exact bothForms_of_slotEffect h (countdownReload_if_active c c.k r)
  case fr => exact bothForms_of_slotEffect h (countdownReload_eq c c.k r)

end Sys2Proof.Proofs
end

section
/-! SUPPORT. A record followed over k dispatches by what one transition does to it, and the
asymmetric timers: the transitions of AC and AS (44 R600, R620), an AC slot going round its cycle
(44 R601) and an AS slot through its pulse (44 R621). -/

namespace Sys2Proof.Machine

/-! ### A record followed over k dispatches (40 R203) -/

/-- A sequence of records that starts with a command's effect and that each transition advances by
one says what the slot holds k dispatches after the command. -/
theorem exec_dispatch_iterate_of_step {i : Instr} {s t : State} {c : SlotCfg} {r : Slot}
    {after : Nat → Slot} (h : SlotIs s i.slot i.variant c r)
    (hx : i.excluded = true → s.tie = false) (ht : exec i s = .next t)
    (hzero : slotEffect i s c r = after 0)
    (hstep : ∀ k, transition s.cfg.vsFwdOvf c (after k) = after (k + 1)) (k : Nat) :
    (dispatch^[k] t).slots[i.slot.toNat]? = some (after k) := by
  have hafter : (transition s.cfg.vsFwdOvf c)^[k] (after 0) = after k := by
    induction k with
    | zero => rfl
    | succ k ih => rw [Function.iterate_succ_apply', ih, hstep]
  rw [exec_dispatch_iterate_getElem? h hx ht k, hzero, hafter]

theorem dec_of_pos {M v : Nat} (hpos : 0 < v) (hlt : v < M) : dec M v = v - 1 := by
  have hdec := dec_mod_eq_sub_one hpos hlt.le
  rwa [Nat.mod_eq_of_lt hlt] at hdec

/-! ### The transition of AC (44 R600) -/

section
variable {c : SlotCfg} {r : Slot}

theorem tAc_inactive (h : r.active = false) : tAc c r = r := by
  simp only [tAc, h, Bool.false_eq_true, if_false]

theorem tAc_counts (h : r.active = true) (hcnt : dec (modulus c) r.cnt ≠ 0) :
    tAc c r = { r with cnt := dec (modulus c) r.cnt } := by
  simp only [tAc, h, hcnt, if_true, if_false]

/-- At the end of a HIGH phase. -/
theorem tAc_ends_high (h : r.active = true) (hcnt : dec (modulus c) r.cnt = 0)
    (hstate : r.state = high) :
    tAc c r =
      if r.s1 ≠ 0 then { r with state := low, cnt := r.s1, tickf := true }
      else { r with cnt := r.s0, tickf := true } := by
  simp only [tAc, h, hcnt, hstate, if_true, acLength, Bool.not_true, Bool.false_eq_true, if_false,
    Slot.raiseTick]

/-- At the end of a LOW phase. -/
theorem tAc_ends_low (h : r.active = true) (hcnt : dec (modulus c) r.cnt = 0)
    (hstate : r.state = low) :
    tAc c r =
      if r.s0 ≠ 0 then { r with state := high, cnt := r.s0, tickf := true }
      else { r with cnt := r.s1, tickf := true } := by
  simp only [tAc, h, hcnt, hstate, if_true, acLength, Bool.not_false, Bool.false_eq_true, if_false,
    Slot.raiseTick]

end

theorem tAc_eq (c : SlotCfg) (r : Slot) :
    tAc c r =
      if r.active = false then r
      else if dec (modulus c) r.cnt ≠ 0 then { r with cnt := dec (modulus c) r.cnt }
      else if r.state = high then
        if r.s1 ≠ 0 then { r with state := low, cnt := r.s1, tickf := true }
        else { r with cnt := r.s0, tickf := true }
      else
        if r.s0 ≠ 0 then { r with state := high, cnt := r.s0, tickf := true }
        else { r with cnt := r.s1, tickf := true } := by
  by_cases hinactive : r.active = false
  · rw [if_pos hinactive, tAc_inactive hinactive]
  have hactive := Bool.eq_true_of_not_eq_false hinactive
  rw [if_neg hinactive]
  by_cases hcnt : dec (modulus c) r.cnt ≠ 0
  · rw [if_pos hcnt, tAc_counts hactive hcnt]
  have hzero := not_not.mp hcnt
  rw [if_neg hcnt]
  by_cases hstate : r.state = high
  · rw [if_pos hstate, tAc_ends_high hactive hzero hstate]
  · rw [if_neg hstate, tAc_ends_low hactive hzero (Bool.eq_false_of_not_eq_true hstate)]

theorem transition_ac {ovf : FwdOverflow} {c : SlotCfg} (h : c.vt = .ac) :
    transition ovf c = tAc c := by
  funext r
  simp only [transition, h]

/-! ### An AC slot going round its cycle (44 R600, R601) -/

/-- The record of an armed AC slot at position `q` of its cycle: HIGH in the first `s0` positions,
LOW in the `s1` positions after them, the counter holding the positions to the end of the phase. -/
def acAt (r : Slot) (q : Nat) (flag : Bool) : Slot :=
  if q < r.s0 then { r with state := high, cnt := r.s0 - q, active := true, tickf := flag }
  else { r with state := low, cnt := r.s0 + r.s1 - q, active := true, tickf := flag }

section
variable {c : SlotCfg} {r : Slot} {q : Nat} {flag : Bool}

theorem acAt_high (h : q < r.s0) :
    acAt r q flag = { r with state := high, cnt := r.s0 - q, active := true, tickf := flag } :=
  if_pos h

theorem acAt_low (h : r.s0 ≤ q) :
    acAt r q flag =
      { r with state := low, cnt := r.s0 + r.s1 - q, active := true, tickf := flag } :=
  if_neg h.not_gt

theorem acAt_active : (acAt r q flag).active = true := by
  unfold acAt
  split_ifs
  · rfl
  · rfl

theorem acAt_state_iff : (acAt r q flag).state = true ↔ q < r.s0 := by
  unfold acAt
  split_ifs with hhigh
  · exact iff_of_true rfl hhigh
  · exact iff_of_false nofun hhigh

/-- The last position of HIGH goes over to LOW and raises the flag. -/
theorem tAc_acAt_high (hs1 : 0 < r.s1) (hM0 : r.s0 < modulus c) (hhigh : q < r.s0) :
    tAc c (acAt r q flag) = acAt r (q + 1) (flag || decide (q + 1 = r.s0)) := by
  have hdec : dec (modulus c) (r.s0 - q) = r.s0 - q - 1 := dec_of_pos (by omega) (by omega)
  rw [acAt_high hhigh]
  rcases Nat.lt_or_ge (q + 1) r.s0 with hnext | hend
  · rw [acAt_high hnext, tAc_counts rfl (by rw [hdec]; omega), hdec, decide_eq_false hnext.ne,
      Bool.or_false, Nat.sub_sub]
  · have hlast : q + 1 = r.s0 := by omega
    rw [acAt_low hend, tAc_ends_high rfl (by rw [hdec]; omega) rfl, if_pos hs1.ne',
      decide_eq_true hlast, Bool.or_true, hlast, Nat.add_sub_cancel_left]

/-- The last position of LOW goes back to the cycle's start and raises the flag. -/
theorem tAc_acAt_low (hs0 : 0 < r.s0) (hM1 : r.s1 < modulus c) (hlow : r.s0 ≤ q)
    (hq : q < r.s0 + r.s1) :
    tAc c (acAt r q flag) =
      acAt r ((q + 1) % (r.s0 + r.s1)) (flag || decide (q + 1 = r.s0 + r.s1)) := by
  have hdec : dec (modulus c) (r.s0 + r.s1 - q) = r.s0 + r.s1 - q - 1 :=
    dec_of_pos (by omega) (by omega)
  rw [acAt_low hlow]
  rcases Nat.lt_or_ge (q + 1) (r.s0 + r.s1) with hnext | hend
  · rw [Nat.mod_eq_of_lt hnext, acAt_low (Nat.le_succ_of_le hlow),
      tAc_counts rfl (by rw [hdec]; omega), hdec, decide_eq_false hnext.ne, Bool.or_false,
      Nat.sub_sub]
  · have hlast : q + 1 = r.s0 + r.s1 := by omega
    rw [hlast, Nat.mod_self, acAt_high hs0, tAc_ends_low rfl (by rw [hdec]; omega) rfl,
      if_pos hs0.ne', decide_eq_true rfl, Bool.or_true, Nat.sub_zero]

end

/-- The record of an AC slot k transitions after it was armed HIGH with the lengths of `r`: at
position k modulo the cycle, the flag set for good by the end of the first phase. -/
def acAfter (r : Slot) (k : Nat) : Slot := acAt r (k % (r.s0 + r.s1)) (decide (r.s0 ≤ k))

theorem tAc_acAfter {c : SlotCfg} {r : Slot} (hs0 : 0 < r.s0) (hs1 : 0 < r.s1)
    (hM0 : r.s0 < modulus c) (hM1 : r.s1 < modulus c) (k : Nat) :
    tAc c (acAfter r k) = acAfter r (k + 1) := by
  have hq : k % (r.s0 + r.s1) < r.s0 + r.s1 := Nat.mod_lt k (by omega)
  have hle : k % (r.s0 + r.s1) ≤ k := Nat.mod_le k _
  rw [acAfter, acAfter, ← Nat.mod_add_mod k]
  rcases Nat.lt_or_ge (k % (r.s0 + r.s1)) r.s0 with hhigh | hlow
  · have hfirst : k + 1 = r.s0 → k % (r.s0 + r.s1) = k := fun _ => Nat.mod_eq_of_lt (by omega)
    have hflag : (r.s0 ≤ k ∨ k % (r.s0 + r.s1) + 1 = r.s0) ↔ r.s0 ≤ k + 1 := by omega
    rw [tAc_acAt_high hs1 hM0 hhigh, Nat.mod_eq_of_lt (a := _ + 1) (by omega), ← Bool.decide_or,
      decide_eq_decide.mpr hflag]
  · have hpast : r.s0 ≤ k := hlow.trans hle
    rw [tAc_acAt_low hs0 hM1 hlow hq, decide_eq_true hpast,
      decide_eq_true (Nat.le_succ_of_le hpast), Bool.true_or]

theorem acSet_eq_acAfter {c : SlotCfg} {s : State} (r : Slot) (h : 0 < argTrunc c s 0) :
    acSet c s r =
      acAfter { r with s0 := argTrunc c s 0, s1 := argTrunc c s 1, susp := false } 0 := by
  rw [acAfter, Nat.zero_mod, acAt_high h, decide_eq_false h.not_ge, acSet, Nat.sub_zero]

/-- k dispatches after AC.SET with two lengths that are not 0. -/
theorem acSet_dispatch_iterate_getElem? {s t : State} {slot : SlotIdx} {c : SlotCfg} {r : Slot}
    (h : SlotIs s slot .ac c r) (hs0 : 0 < argTrunc c s 0) (hs1 : 0 < argTrunc c s 1)
    (ht : exec (.acSet slot) s = .next t) (k : Nat) :
    (dispatch^[k] t).slots[slot.toNat]? =
      some (acAfter { r with s0 := argTrunc c s 0, s1 := argTrunc c s 1, susp := false } k) := by
  refine exec_dispatch_iterate_of_step (i := .acSet slot) h nofun ht (acSet_eq_acAfter r hs0)
    (fun k => ?_) k
  rw [transition_ac h.variant_eq]
  exact tAc_acAfter hs0 hs1 (argTrunc_lt c s 0) (argTrunc_lt c s 1) k

/-! ### The transition of AS (44 R620) -/

section
variable {c : SlotCfg} {r : Slot}

theorem tAs_inactive (h : r.active = false) : tAs c r = r := by
  simp only [tAs, h, Bool.false_eq_true, if_false]

theorem tAs_counts (h : r.active = true) (hcnt : dec (modulus c) r.cnt ≠ 0) :
    tAs c r = { r with cnt := dec (modulus c) r.cnt } := by
  simp only [tAs, h, hcnt, if_true, if_false]

theorem tAs_changes_half (h : r.active = true) (hcnt : dec (modulus c) r.cnt = 0)
    (hhalf : r.phase = first ∧ r.s1 ≠ 0) :
    tAs c r = { r with state := !r.state, phase := second, cnt := r.s1 } := by
  simp only [tAs, h, hcnt, if_true, if_pos hhalf]

theorem tAs_expires (h : r.active = true) (hcnt : dec (modulus c) r.cnt = 0)
    (hlast : r.phase = first → r.s1 = 0) :
    tAs c r = { r with cnt := 0, active := false, expired := true } := by
  simp only [tAs, h, hcnt, if_true, if_neg (not_and_not_right.mpr hlast), Slot.expire]

end

theorem tAs_eq (c : SlotCfg) (r : Slot) :
    tAs c r =
      if r.active = false then r
      else if dec (modulus c) r.cnt ≠ 0 then { r with cnt := dec (modulus c) r.cnt }
      else if r.phase = first ∧ r.s1 ≠ 0 then
        { r with state := !r.state, phase := second, cnt := r.s1 }
      else { r with cnt := 0, active := false, expired := true } := by
  split_ifs with hinactive hcnt hhalf
  · exact tAs_inactive hinactive
  · exact tAs_counts (Bool.eq_true_of_not_eq_false hinactive) hcnt
  · exact tAs_changes_half (Bool.eq_true_of_not_eq_false hinactive) (not_not.mp hcnt) hhalf
  · exact tAs_expires (Bool.eq_true_of_not_eq_false hinactive) (not_not.mp hcnt)
      (not_and_not_right.mp hhalf)

theorem transition_as {ovf : FwdOverflow} {c : SlotCfg} (h : c.vt = .as) :
    transition ovf c = tAs c := by
  funext r
  simp only [transition, h]

/-! ### An AS slot through its pulse (44 R620, R621) -/

/-- The record of an AS slot k transitions after it was armed with the lengths of `r` and the
initial state `ist`: `s0` transitions in FIRST, `s1` in SECOND with the inverted state, then expired
for good in the half it ended in. -/
def asAfter (r : Slot) (ist : Bool) (k : Nat) : Slot :=
  if k < r.s0 then
    { r with phase := first, state := ist, cnt := r.s0 - k, active := true, expired := false }
  else if k < r.s0 + r.s1 then
    { r with
      phase := second, state := !ist, cnt := r.s0 + r.s1 - k, active := true, expired := false }
  else
    { r with
      phase := if r.s1 = 0 then first else second, state := if r.s1 = 0 then ist else !ist
      cnt := 0, active := false, expired := true }

section
variable {c : SlotCfg} {r : Slot} {ist : Bool} {k : Nat}

theorem asAfter_first (h : k < r.s0) :
    asAfter r ist k =
      { r with phase := first, state := ist, cnt := r.s0 - k, active := true, expired := false } :=
  if_pos h

theorem asAfter_second (h : r.s0 ≤ k) (hend : k < r.s0 + r.s1) :
    asAfter r ist k =
      { r with
        phase := second, state := !ist, cnt := r.s0 + r.s1 - k, active := true
        expired := false } :=
  (if_neg h.not_gt).trans (if_pos hend)

theorem asAfter_expired (h : r.s0 + r.s1 ≤ k) :
    asAfter r ist k =
      { r with
        phase := if r.s1 = 0 then first else second, state := if r.s1 = 0 then ist else !ist
        cnt := 0, active := false, expired := true } :=
  (if_neg (Nat.le_of_add_right_le h).not_gt).trans (if_neg h.not_gt)

/-- The last transition of FIRST changes to SECOND or, where there is none, expires the slot. -/
theorem tAs_asAfter_first (hM0 : r.s0 < modulus c) (h : k < r.s0) :
    tAs c (asAfter r ist k) = asAfter r ist (k + 1) := by
  have hdec : dec (modulus c) (r.s0 - k) = r.s0 - k - 1 := dec_of_pos (by omega) (by omega)
  rw [asAfter_first h]
  rcases Nat.lt_or_ge (k + 1) r.s0 with hnext | hend
  · rw [asAfter_first hnext, tAs_counts rfl (by rw [hdec]; omega), hdec, Nat.sub_sub]
  · by_cases hs1 : r.s1 = 0
    · rw [asAfter_expired (by omega), if_pos hs1, if_pos hs1]
      exact tAs_expires rfl (by rw [hdec]; omega) fun _ => hs1
    · have hcnt : r.s0 + r.s1 - (k + 1) = r.s1 := by omega
      rw [asAfter_second hend (by omega), hcnt]
      exact tAs_changes_half rfl (by rw [hdec]; omega) ⟨rfl, hs1⟩

theorem tAs_asAfter_second (hM1 : r.s1 < modulus c) (h : r.s0 ≤ k) (hend : k < r.s0 + r.s1) :
    tAs c (asAfter r ist k) = asAfter r ist (k + 1) := by
  have hdec : dec (modulus c) (r.s0 + r.s1 - k) = r.s0 + r.s1 - k - 1 :=
    dec_of_pos (by omega) (by omega)
  rw [asAfter_second h hend]
  rcases Nat.lt_or_ge (k + 1) (r.s0 + r.s1) with hnext | hlast
  · rw [asAfter_second (by omega) hnext, tAs_counts rfl (by rw [hdec]; omega), hdec, Nat.sub_sub]
  · have hs1 : r.s1 ≠ 0 := by omega
    rw [asAfter_expired hlast, if_neg hs1, if_neg hs1]
    exact tAs_expires rfl (by rw [hdec]; omega) nofun

theorem tAs_asAfter (hM0 : r.s0 < modulus c) (hM1 : r.s1 < modulus c) (k : Nat) :
    tAs c (asAfter r ist k) = asAfter r ist (k + 1) := by
  rcases Nat.lt_or_ge k r.s0 with hfirst | hpast
  · exact tAs_asAfter_first hM0 hfirst
  rcases Nat.lt_or_ge k (r.s0 + r.s1) with hsecond | hexpired
  · exact tAs_asAfter_second hM1 hpast hsecond
  · rw [asAfter_expired hexpired, asAfter_expired (by omega), tAs_inactive rfl]

end

theorem asAfter_fields (r : Slot) (ist : Bool) (k : Nat) :
    ((asAfter r ist k).expired = true ↔ r.s0 + r.s1 ≤ k) ∧
      ((asAfter r ist k).active = true ↔ k < r.s0 + r.s1) ∧
      (asAfter r ist k).state = if k < r.s0 ∨ r.s1 = 0 then ist else !ist := by
  rcases Nat.lt_or_ge k r.s0 with hfirst | hpast
  · have hrunning : k < r.s0 + r.s1 := Nat.lt_add_right _ hfirst
    simp [asAfter_first hfirst, hfirst, hrunning]
  rcases Nat.lt_or_ge k (r.s0 + r.s1) with hsecond | hexpired
  · have hs1 : r.s1 ≠ 0 := by omega
    simp [asAfter_second hpast hsecond, hpast.not_gt, hsecond, hs1]
  · simp [asAfter_expired hexpired, hpast.not_gt, hexpired]

theorem asSet_eq_asAfter {c : SlotCfg} {s : State} (r : Slot)
    (h : 0 < argTrunc c s 0 + argTrunc c s 1) :
    asSet c s r =
      asAfter { r with s0 := argTrunc c s 0, s1 := argTrunc c s 1, susp := false } (argBit s 2)
        0 := by
  by_cases hfirst : argTrunc c s 0 = 0
  · have hsecond : argTrunc c s 1 ≠ 0 := by omega
    rw [asAfter_second hfirst.le h]
    simp only [asSet, hfirst, hsecond, ne_eq, not_true_eq_false, not_false_eq_true, if_true,
      if_false, Nat.zero_add, Nat.sub_zero]
  · rw [asAfter_first (Nat.pos_of_ne_zero hfirst)]
    simp only [asSet, hfirst, ne_eq, not_false_eq_true, if_true, Nat.sub_zero]

/-- k dispatches after an AS.SET with a length that is not 0. -/
theorem asSet_dispatch_iterate_getElem? {s t : State} {slot : SlotIdx} {c : SlotCfg} {r : Slot}
    (h : SlotIs s slot .as c r) (hlength : 0 < argTrunc c s 0 + argTrunc c s 1)
    (ht : exec (.asSet slot) s = .next t) (k : Nat) :
    (dispatch^[k] t).slots[slot.toNat]? =
      some (asAfter { r with s0 := argTrunc c s 0, s1 := argTrunc c s 1, susp := false }
        (argBit s 2) k) := by
  refine exec_dispatch_iterate_of_step (i := .asSet slot) h nofun ht (asSet_eq_asAfter r hlength)
    (fun k => ?_) k
  rw [transition_as h.variant_eq]
  exact tAs_asAfter (argTrunc_lt c s 0) (argTrunc_lt c s 1) k

end Sys2Proof.Machine
end

section
/-! SETTLED. The asymmetric timers (44_asymmetric.md). -/

namespace Sys2Proof.Proofs

open Sys2Proof Sys2Proof.Machine

/-- Settles O58, by the record after every number of dispatches, which goes round a cycle of
high + low positions. -/
theorem acDutyCycleIsHighThenLow : Obligations.AcDutyCycleIsHighThenLow := by
  intro s t slot c r h l k hslot hh hl hs0 hs1 ht
  obtain rfl : h = argTrunc c s 0 := hh
  obtain rfl : l = argTrunc c s 1 := hl
  exact ⟨_, acSet_dispatch_iterate_getElem? hslot hs0 hs1 ht k, acAt_active, acAt_state_iff⟩

/-- Settles O60, by the record after every number of dispatches; where there is no first length, the
pulse starts in SECOND at once. -/
theorem asPulseLastsFirstPlusSecond : Obligations.AsPulseLastsFirstPlusSecond := by
  intro s t slot c r f g k hslot hf hg hlength ht
  obtain rfl : f = argTrunc c s 0 := hf
  obtain rfl : g = argTrunc c s 1 := hg
  exact ⟨_, asSet_dispatch_iterate_getElem? hslot hlength ht k, asAfter_fields _ (argBit s 2) k⟩

/-- Settles O33: the effects are `Slot.disarmRepeating` for AC and `Slot.disarmOneShot` for AS, with
`susp` cleared. -/
theorem asymmetricStopAndResetDisarm : Obligations.AsymmetricStopAndResetDisarm := by
  intro s slot c r
  refine ⟨fun h => ⟨?acStop, ?acReset⟩, fun h => ⟨?asStop, ?asReset⟩⟩
  case acStop => exact bothForms_of_slotEffect h rfl
  case acReset => exact bothForms_of_slotEffect h rfl
  case asStop => exact bothForms_of_slotEffect h rfl
  case asReset => exact bothForms_of_slotEffect h rfl

/-- Settles O36: the effects are `suspendSlot` and `resumeSlot`, the same for AC and AS. -/
theorem suspendAndResume : Obligations.SuspendAndResume := by
  intro s slot c r
  refine ⟨fun h => ⟨?acSuspend, ?acResume⟩, fun h => ⟨?asSuspend, ?asResume⟩⟩
  case acSuspend => exact bothForms_of_slotEffect h rfl
  case acResume => exact bothForms_of_slotEffect h rfl
  case asSuspend => exact bothForms_of_slotEffect h rfl
  case asResume => exact bothForms_of_slotEffect h rfl

/-- Settles O40: the effect is `acChgset`, with ARG0 and ARG1 truncated to the slot's width. -/
theorem acChangeWritesLengthsAndForcesState : Obligations.AcChangeWritesLengthsAndForcesState := by
  intro s slot c r h
  exact bothForms_of_slotEffect h rfl

/-- Settles O45: the effect is `acSet`, with ARG0 and ARG1 truncated to the slot's width. -/
theorem acSetArmsHigh : Obligations.AcSetArmsHigh := by
  intro s slot c r h
  exact bothForms_of_slotEffect h rfl

/-- Settles O46: the effect is `asSet`, with ARG0 and ARG1 truncated to the slot's width. -/
theorem asSetArmsFirstOrSecondOrNeither : Obligations.AsSetArmsFirstOrSecondOrNeither := by
  intro s slot c r h
  exact bothForms_of_slotEffect h rfl

/-- Settles O52: the effect is the transition `tAc`, over its cases. -/
theorem acStepSwitchesOrSkipsAPhase : Obligations.AcStepSwitchesOrSkipsAPhase := by
  intro s slot c r h
  exact bothForms_of_slotEffect h (tAc_eq c r)

/-- Settles O53: the effect is the transition `tAs`, over its four cases. -/
theorem asStepChangesHalfOrExpires : Obligations.AsStepChangesHalfOrExpires := by
  intro s slot c r h
  exact bothForms_of_slotEffect h (tAs_eq c r)

end Sys2Proof.Proofs
end

section
/-! SUPPORT. The Burst Generators: the transitions of BG and BGO (45 R700, R720), BGO as BG with its
output driven by the phase, and a slot going through the ticks of its bursts (45 R701, R721). -/

namespace Sys2Proof.Machine

/-! ### The transitions of BG and BGO (45 R700, R720) -/

section
variable {c : SlotCfg} {r : Slot}

theorem burstChange_rises (h : r.phase = low) :
    burstChange c r =
      { r with rem := if r.rem = 0 then r.s0 else r.rem, phase := high, cnt := r.s1 } :=
  if_pos h

theorem burstChange_falls (h : ¬ r.phase = low) :
    burstChange c r =
      { r with
        phase := low, rem := dec (modulus c) r.rem
        cnt := if dec (modulus c) r.rem ≠ 0 then r.s2 else r.s3 } :=
  if_neg h

theorem burstChange_out (b : Bool) :
    burstChange c { r with out := b } = { burstChange c r with out := b } := by
  unfold burstChange
  split
  · rfl
  · rfl

theorem tBg_inactive (h : r.active = false) : tBg c r = r := by
  simp only [tBg, h, Bool.false_eq_true, if_false]

theorem tBg_counts (h : r.active = true) (hcnt : dec (modulus c) r.cnt ≠ 0) :
    tBg c r = { r with cnt := dec (modulus c) r.cnt } := by
  simp only [tBg, h, hcnt, if_true, if_false]

theorem tBg_changes (h : r.active = true) (hcnt : dec (modulus c) r.cnt = 0) :
    tBg c r = { burstChange c r with tickf := true } := by
  simp only [tBg, h, hcnt, if_true, Slot.raiseTick]

theorem tBgo_inactive (h : r.active = false) : tBgo c r = r := by
  simp only [tBgo, h, Bool.false_eq_true, if_false]

theorem tBgo_counts (h : r.active = true) (hcnt : dec (modulus c) r.cnt ≠ 0) :
    tBgo c r = { r with cnt := dec (modulus c) r.cnt } := by
  simp only [tBgo, h, hcnt, if_true, if_false]

/-- The output takes the new phase in both directions of the change. -/
theorem tBgo_changes (h : r.active = true) (hcnt : dec (modulus c) r.cnt = 0) :
    tBgo c r = { burstChange c r with out := (burstChange c r).phase, tickf := true } := by
  by_cases hphase : r.phase = low
  · simp only [tBgo, h, hcnt, if_true, if_pos hphase, Slot.raiseTick, burstChange_rises hphase]
  · simp only [tBgo, h, hcnt, if_true, if_neg hphase, Slot.raiseTick, burstChange_falls hphase]

end

theorem tBg_eq (c : SlotCfg) (r : Slot) :
    tBg c r =
      if r.active = false then r
      else if dec (modulus c) r.cnt ≠ 0 then { r with cnt := dec (modulus c) r.cnt }
      else if r.phase = low then
        { r with rem := if r.rem = 0 then r.s0 else r.rem, phase := high, cnt := r.s1
                 tickf := true }
      else
        { r with
          phase := low, rem := dec (modulus c) r.rem
          cnt := if dec (modulus c) r.rem ≠ 0 then r.s2 else r.s3, tickf := true } := by
  by_cases hinactive : r.active = false
  · rw [if_pos hinactive, tBg_inactive hinactive]
  have hactive := Bool.eq_true_of_not_eq_false hinactive
  rw [if_neg hinactive]
  by_cases hcnt : dec (modulus c) r.cnt ≠ 0
  · rw [if_pos hcnt, tBg_counts hactive hcnt]
  rw [if_neg hcnt, tBg_changes hactive (not_not.mp hcnt)]
  by_cases hphase : r.phase = low
  · rw [if_pos hphase, burstChange_rises hphase]
  · rw [if_neg hphase, burstChange_falls hphase]

theorem tBgo_eq (c : SlotCfg) (r : Slot) :
    tBgo c r =
      if r.active = false then r
      else if dec (modulus c) r.cnt ≠ 0 then { r with cnt := dec (modulus c) r.cnt }
      else if r.phase = low then
        { r with rem := if r.rem = 0 then r.s0 else r.rem, phase := high, cnt := r.s1
                 out := true, tickf := true }
      else
        { r with
          phase := low, rem := dec (modulus c) r.rem
          cnt := if dec (modulus c) r.rem ≠ 0 then r.s2 else r.s3, out := false
          tickf := true } := by
  by_cases hinactive : r.active = false
  · rw [if_pos hinactive, tBgo_inactive hinactive]
  have hactive := Bool.eq_true_of_not_eq_false hinactive
  rw [if_neg hinactive]
  by_cases hcnt : dec (modulus c) r.cnt ≠ 0
  · rw [if_pos hcnt, tBgo_counts hactive hcnt]
  rw [if_neg hcnt, tBgo_changes hactive (not_not.mp hcnt)]
  by_cases hphase : r.phase = low
  · rw [if_pos hphase, burstChange_rises hphase]
  · rw [if_neg hphase, burstChange_falls hphase]

/-! ### BGO is BG with its output driven by the phase (45 R720, R721) -/

/-- The record with its output bit, where the variant has one, equal to its phase (10 R64). -/
def driveOut (c : SlotCfg) (r : Slot) : Slot := if c.vt = .bgo then { r with out := r.phase } else r

section
variable {c : SlotCfg}

theorem driveOut_bgo (h : c.vt = .bgo) (r : Slot) : driveOut c r = { r with out := r.phase } :=
  if_pos h

theorem driveOut_bg (h : c.vt = .bg) (r : Slot) : driveOut c r = r :=
  if_neg (by rw [h]; decide)

theorem driveOut_active (r : Slot) : (driveOut c r).active = r.active := by
  unfold driveOut
  split_ifs
  · rfl
  · rfl

theorem driveOut_phase (r : Slot) : (driveOut c r).phase = r.phase := by
  unfold driveOut
  split_ifs
  · rfl
  · rfl

theorem driveOut_out (h : c.vt = .bgo) (r : Slot) :
    (driveOut c r).out = (driveOut c r).phase := by
  rw [driveOut_bgo h]

theorem tBgo_out_eq_phase (r : Slot) :
    tBgo c { r with out := r.phase } = { tBg c r with out := (tBg c r).phase } := by
  by_cases hinactive : r.active = false
  · rw [tBg_inactive hinactive]
    exact tBgo_inactive hinactive
  have hactive := Bool.eq_true_of_not_eq_false hinactive
  by_cases hcnt : dec (modulus c) r.cnt ≠ 0
  · rw [tBg_counts hactive hcnt]
    exact tBgo_counts hactive hcnt
  · rw [tBg_changes hactive (not_not.mp hcnt),
      tBgo_changes (r := { r with out := r.phase }) hactive (not_not.mp hcnt), burstChange_out]

/-- A transition of BG before the output is driven is one of the slot's variant after it. -/
theorem driveOut_semiconj {ovf : FwdOverflow} (h : c.vt = .bg ∨ c.vt = .bgo) :
    Function.Semiconj (driveOut c) (tBg c) (transition ovf c) := by
  intro r
  rcases h with hbg | hbgo
  · simp only [driveOut_bg hbg, transition, hbg]
  · simp only [driveOut_bgo hbgo, transition, hbgo, tBgo_out_eq_phase]

end

/-- k dispatches after BG.SET or BGO.SET: k transitions of BG, with the output driven. -/
theorem burstSet_dispatch_iterate_getElem? {s t : State} {i : Instr} {slot : SlotIdx} {c : SlotCfg}
    {r : Slot}
    (h : (i = .bgSet slot ∧ SlotIs s slot .bg c r) ∨ (i = .bgoSet slot ∧ SlotIs s slot .bgo c r))
    (ht : exec i s = .next t) (k : Nat) :
    (dispatch^[k] t).slots[slot.toNat]? = some (driveOut c ((tBg c)^[k] (burstSet c s r))) := by
  rcases h with ⟨rfl, hbg⟩ | ⟨rfl, hbgo⟩
  · have hset : bgSet c s r = driveOut c (burstSet c s r) := (driveOut_bg hbg.variant_eq _).symm
    rw [(driveOut_semiconj (.inl hbg.variant_eq)).iterate_right k, ← hset]
    exact exec_dispatch_iterate_getElem? (i := .bgSet slot) hbg nofun ht k
  · have hset : bgoSet c s r = driveOut c (burstSet c s r) :=
      (driveOut_bgo hbgo.variant_eq _).symm
    rw [(driveOut_semiconj (.inr hbgo.variant_eq)).iterate_right k, ← hset]
    exact exec_dispatch_iterate_getElem? (i := .bgoSet slot) hbgo nofun ht k

/-! ### The ticks of a burst (45 R700, R701) -/

/-- The four settings of a burst generator, each at least 1 and in its range. -/
structure BurstSettings (c : SlotCfg) (r : Slot) : Prop where
  pulses_pos : 0 < r.s0
  pulses_lt : r.s0 < modulus c
  ht_pos : 0 < r.s1
  ht_lt : r.s1 < modulus c
  lt_pos : 0 < r.s2
  lt_lt : r.s2 < modulus c
  it_pos : 0 < r.s3
  it_lt : r.s3 < modulus c

/-- The LOW ticks after pulse `j`, pulse 0 first: the gap follows the last pulse. -/
def burstLow (r : Slot) (j : Nat) : Nat := if j + 1 = r.s0 then r.s3 else r.s2

/-- The ticks of a cycle from its start to the end of its last pulse. -/
def burstHead (r : Slot) : Nat := r.s0 * r.s1 + (r.s0 - 1) * r.s2

/-- The record of an armed slot in tick `x` of pulse `j` and the LOW ticks after it: `rem` counts the
pulses that have not ended, the counter holds the ticks to the end of the phase. -/
def burstAt (r : Slot) (j x : Nat) : Slot :=
  if x < r.s1 then
    { r with phase := high, rem := r.s0 - j, cnt := r.s1 - x, active := true, tickf := true }
  else
    { r with
      phase := low, rem := r.s0 - (j + 1), cnt := r.s1 + burstLow r j - x, active := true
      tickf := true }

section
variable {c : SlotCfg} {r : Slot} {j x : Nat}

theorem burstLow_last (h : j + 1 = r.s0) : burstLow r j = r.s3 := if_pos h

theorem burstLow_between (h : j + 1 ≠ r.s0) : burstLow r j = r.s2 := if_neg h

theorem BurstSettings.burstLow_pos (h : BurstSettings c r) (j : Nat) : 0 < burstLow r j := by
  unfold burstLow
  split_ifs
  · exact h.it_pos
  · exact h.lt_pos

theorem BurstSettings.burstLow_lt (h : BurstSettings c r) (j : Nat) :
    burstLow r j < modulus c := by
  unfold burstLow
  split_ifs
  · exact h.it_lt
  · exact h.lt_lt

theorem burstAt_high (h : x < r.s1) :
    burstAt r j x =
      { r with phase := high, rem := r.s0 - j, cnt := r.s1 - x, active := true, tickf := true } :=
  if_pos h

theorem burstAt_low (h : r.s1 ≤ x) :
    burstAt r j x =
      { r with
        phase := low, rem := r.s0 - (j + 1), cnt := r.s1 + burstLow r j - x, active := true
        tickf := true } :=
  if_neg h.not_gt

theorem burstAt_active : (burstAt r j x).active = true := by
  unfold burstAt
  split_ifs
  · rfl
  · rfl

theorem burstAt_phase_iff : (burstAt r j x).phase = true ↔ x < r.s1 := by
  unfold burstAt
  split_ifs with hhigh
  · exact iff_of_true rfl hhigh
  · exact iff_of_false nofun hhigh

theorem BurstSettings.dec_high (h : BurstSettings c r) (hx : x < r.s1) :
    dec (modulus c) (r.s1 - x) = r.s1 - x - 1 :=
  dec_of_pos (Nat.sub_pos_of_lt hx) (Nat.sub_lt_of_lt h.ht_lt)

theorem BurstSettings.dec_low (h : BurstSettings c r) (hx : r.s1 ≤ x)
    (hend : x < r.s1 + burstLow r j) :
    dec (modulus c) (r.s1 + burstLow r j - x) = r.s1 + burstLow r j - x - 1 := by
  have hlow := h.burstLow_lt j
  exact dec_of_pos (by omega) (by omega)

/-- The last HIGH tick takes the pulse off `rem`, and loads the gap where no pulse is left. -/
theorem tBg_burstAt_high (h : BurstSettings c r) (hj : j < r.s0) (hx : x < r.s1) :
    tBg c (burstAt r j x) = burstAt r j (x + 1) := by
  have hdec := h.dec_high hx
  rw [burstAt_high hx]
  rcases Nat.lt_or_ge (x + 1) r.s1 with hnext | hend
  · rw [burstAt_high hnext, tBg_counts rfl (by rw [hdec]; omega), hdec, Nat.sub_sub]
  · have hrem : dec (modulus c) (r.s0 - j) = r.s0 - (j + 1) :=
      dec_of_pos (Nat.sub_pos_of_lt hj) (Nat.sub_lt_of_lt h.pulses_lt)
    have hlast : (if r.s0 - (j + 1) ≠ 0 then r.s2 else r.s3) = burstLow r j := by
      rw [burstLow, ite_not]
      exact if_congr (by omega) rfl rfl
    have hcnt : r.s1 + burstLow r j - (x + 1) = burstLow r j := by omega
    rw [burstAt_low hend, hcnt, tBg_changes rfl (by rw [hdec]; omega),
      burstChange_falls (by exact nofun)]
    simp only [hrem, hlast]

theorem tBg_burstAt_low (h : BurstSettings c r) (hx : r.s1 ≤ x)
    (hnext : x + 1 < r.s1 + burstLow r j) : tBg c (burstAt r j x) = burstAt r j (x + 1) := by
  have hdec := h.dec_low hx (Nat.lt_of_succ_lt hnext)
  rw [burstAt_low hx, burstAt_low (Nat.le_succ_of_le hx), tBg_counts rfl (by rw [hdec]; omega),
    hdec, Nat.sub_sub]

/-- The last LOW tick goes over to the next pulse, or to the first one of the next burst. -/
theorem tBg_burstAt_last (h : BurstSettings c r) (hj : j < r.s0)
    (hlast : x + 1 = r.s1 + burstLow r j) :
    tBg c (burstAt r j x) = burstAt r (if j + 1 = r.s0 then 0 else j + 1) 0 := by
  have hlow := h.burstLow_pos j
  have hx : r.s1 ≤ x := by omega
  have hdec := h.dec_low (j := j) hx (by omega)
  have hrem : (if r.s0 - (j + 1) = 0 then r.s0 else r.s0 - (j + 1)) =
      r.s0 - (if j + 1 = r.s0 then 0 else j + 1) := by
    split_ifs <;> omega
  rw [burstAt_low hx, burstAt_high h.ht_pos, tBg_changes rfl (by rw [hdec]; omega),
    burstChange_rises rfl, Nat.sub_zero]
  simp only [hrem]

/-- BG.SET and BGO.SET leave a slot that is one transition before the first tick of a burst. -/
theorem tBg_burstSet {s : State} (h : BurstSettings c (burstSet c s r)) :
    tBg c (burstSet c s r) = burstAt (burstSet c s r) 0 0 := by
  have hdec : dec (modulus c) (burstSet c s r).cnt = 0 := by
    simp only [burstSet, dec, Nat.add_sub_cancel_left, Nat.mod_self]
  rw [burstAt_high h.ht_pos, tBg_changes rfl hdec, burstChange_rises rfl]
  rfl

/-! ### The cycle of bursts (45 R700, R701, 90 C5) -/

theorem burstHead_eq (h : 0 < r.s0) : burstHead r = (r.s0 - 1) * (r.s1 + r.s2) + r.s1 := by
  obtain ⟨m, hm⟩ := Nat.exists_eq_add_one.mpr h
  rw [burstHead, hm, Nat.add_sub_cancel]
  ring

/-- Tick `k` of the pattern is tick `x` of pulse `j` of a burst, up to whole cycles. -/
structure BurstTick (r : Slot) (k j x : Nat) : Prop where
  pulse_lt : j < r.s0
  tick_lt : x < r.s1 + burstLow r j
  tick_modEq : k ≡ j * (r.s1 + r.s2) + x [MOD burstHead r + r.s3]

/-- A transition takes the record of one tick of the pattern to the record of the next. -/
theorem BurstTick.succ {k : Nat} (h : BurstTick r k j x) (hset : BurstSettings c r) :
    ∃ j' x', BurstTick r (k + 1) j' x' ∧ tBg c (burstAt r j x) = burstAt r j' x' := by
  obtain ⟨hj, hx, hk⟩ := h
  have hk' : k + 1 ≡ j * (r.s1 + r.s2) + (x + 1) [MOD burstHead r + r.s3] := hk.add_right 1
  rcases Nat.lt_or_ge (x + 1) (r.s1 + burstLow r j) with hnext | hend
  · refine ⟨j, x + 1, ⟨hj, hnext, hk'⟩, ?_⟩
    rcases Nat.lt_or_ge x r.s1 with hhigh | hlow
    · exact tBg_burstAt_high hset hj hhigh
    · exact tBg_burstAt_low hset hlow hnext
  · have hlast : x + 1 = r.s1 + burstLow r j := Nat.le_antisymm hx hend
    refine ⟨_, 0, ⟨?pulse, Nat.add_pos_left hset.ht_pos _, ?tick⟩, tBg_burstAt_last hset hj hlast⟩
    case pulse => split_ifs <;> omega
    case tick =>
      rw [hlast] at hk'
      split_ifs with hburst
      · have hcycle : j * (r.s1 + r.s2) + (r.s1 + burstLow r j) = burstHead r + r.s3 := by
          rw [burstHead_eq hset.pulses_pos, burstLow_last hburst, ← hburst, Nat.add_sub_cancel,
            Nat.add_assoc]
        rw [hcycle] at hk'
        rw [Nat.zero_mul]
        exact hk'.trans (Nat.modEq_zero_iff_dvd.mpr dvd_rfl)
      · rwa [burstLow_between hburst, ← Nat.succ_mul] at hk'

/-- The HIGH ticks of the pulses, by the tick's place in its cycle. -/
theorem BurstTick.high_iff {k : Nat} (h : BurstTick r k j x) :
    x < r.s1 ↔
      k % (burstHead r + r.s3) < burstHead r ∧
        k % (burstHead r + r.s3) % (r.s1 + r.s2) < r.s1 := by
  obtain ⟨hj, hx, hk⟩ := h
  have hhead := burstHead_eq (Nat.zero_lt_of_lt hj)
  by_cases hlast : j + 1 = r.s0
  · rw [burstLow_last hlast] at hx
    rw [← hlast, Nat.add_sub_cancel] at hhead
    have hmod : k % (burstHead r + r.s3) = j * (r.s1 + r.s2) + x :=
      Eq.trans hk (Nat.mod_eq_of_lt (by omega))
    rw [hmod, hhead, Nat.add_lt_add_iff_left, Nat.mul_add_mod']
    exact ⟨fun h => ⟨h, by rwa [Nat.mod_eq_of_lt (Nat.lt_add_right _ h)]⟩, And.left⟩
  · rw [burstLow_between hlast] at hx
    have hpulse : (j + 1) * (r.s1 + r.s2) ≤ (r.s0 - 1) * (r.s1 + r.s2) :=
      Nat.mul_le_mul_right _ (by omega)
    rw [Nat.succ_mul] at hpulse
    have hmod : k % (burstHead r + r.s3) = j * (r.s1 + r.s2) + x :=
      Eq.trans hk (Nat.mod_eq_of_lt (by omega))
    rw [hmod, Nat.mul_add_mod', Nat.mod_eq_of_lt hx]
    exact (and_iff_right (by omega)).symm

/-- k + 1 transitions after BG.SET or BGO.SET the slot is in tick `k` of the pattern. -/
theorem tBg_iterate_burstSet {s : State} (h : BurstSettings c (burstSet c s r)) (k : Nat) :
    ∃ j x, BurstTick (burstSet c s r) k j x ∧
      (tBg c)^[k + 1] (burstSet c s r) = burstAt (burstSet c s r) j x := by
  induction k with
  | zero =>
    exact ⟨0, 0, ⟨h.pulses_pos, Nat.add_pos_left h.ht_pos _, by rw [Nat.zero_mul]⟩, tBg_burstSet h⟩
  | succ k ih =>
    obtain ⟨j, x, htick, hk⟩ := ih
    obtain ⟨j', x', htick', hstep⟩ := htick.succ h
    exact ⟨j', x', htick', by rw [Function.iterate_succ_apply', hk, hstep]⟩

end

theorem burstSettings_burstSet {c : SlotCfg} {s : State} (r : Slot)
    (h0 : 0 < argTrunc c s 0) (h1 : 0 < argTrunc c s 1) (h2 : 0 < argTrunc c s 2)
    (h3 : 0 < argTrunc c s 3) : BurstSettings c (burstSet c s r) :=
  ⟨h0, argTrunc_lt c s 0, h1, argTrunc_lt c s 1, h2, argTrunc_lt c s 2, h3, argTrunc_lt c s 3⟩

end Sys2Proof.Machine
end

section
/-! SETTLED. The Burst Generators (45_burst.md). -/

namespace Sys2Proof.Proofs

open Sys2Proof Sys2Proof.Machine

/-- Settles O59, by the tick of the pattern that the record is in after every number of dispatches;
BGO goes through it as BG does, with the output driven by the phase. -/
theorem burstCycleHasPulsesThenGap : Obligations.BurstCycleHasPulsesThenGap := by
  intro s t i slot c r n ht lt it k hslot hn hht hlt hit h0 h1 h2 h3 hexec
  obtain rfl : n = argTrunc c s 0 := hn
  obtain rfl : ht = argTrunc c s 1 := hht
  obtain rfl : lt = argTrunc c s 2 := hlt
  obtain rfl : it = argTrunc c s 3 := hit
  obtain ⟨j, x, htick, hrecord⟩ := tBg_iterate_burstSet (burstSettings_burstSet r h0 h1 h2 h3) k
  refine ⟨_, burstSet_dispatch_iterate_getElem? hslot hexec (k + 1), ?active, ?phase,
    fun hbgo => driveOut_out hbgo _⟩
  case active => rw [driveOut_active, hrecord, burstAt_active]
  case phase =>
    rw [driveOut_phase, hrecord, burstAt_phase_iff]
    exact htick.high_iff

/-- Settles O47: the effects are `bgSet` and `bgoSet`, with the arguments truncated to the slot's
width. -/
theorem burstSetStartsThePattern : Obligations.BurstSetStartsThePattern := by
  intro s slot c r
  refine ⟨fun h => ?bgSet, fun h => ?bgoSet⟩
  case bgSet => exact bothForms_of_slotEffect h rfl
  case bgoSet => exact bothForms_of_slotEffect h rfl

/-- Settles O54: the effects are the transitions `tBg` and `tBgo`, over their four cases. -/
theorem burstStepsFollowThePattern : Obligations.BurstStepsFollowThePattern := by
  intro s slot c r
  refine ⟨fun h => ?bgStep, fun h => ?bgoStep⟩
  case bgStep => exact bothForms_of_slotEffect h (tBg_eq c r)
  case bgoStep => exact bothForms_of_slotEffect h (tBgo_eq c r)

end Sys2Proof.Proofs
end

section
/-! SUPPORT. The records of the reset state (10_state.md R67). -/

namespace Sys2Proof.Machine

theorem resetFor_slots_length (cfg : Config) : (State.resetFor cfg).slots.length = cfg.nSlots :=
  List.length_map ..

/-- After reset each configured slot holds its own `resetSlot`. -/
theorem resetFor_getElem? {cfg : Config} {i : Nat} {c : SlotCfg} (hc : cfg.slots[i]? = some c) :
    (State.resetFor cfg).slots[i]? = some (resetSlot c) := by
  have hmap : (State.resetFor cfg).slots[i]? = cfg.slots[i]?.map resetSlot := List.getElem?_map
  rw [hmap, hc, Option.map_some]

end Sys2Proof.Machine
end

section
/-! SETTLED. Reset (70_reset_and_hazards.md). -/

namespace Sys2Proof.Proofs

open Sys2Proof Sys2Proof.Machine

/-- Settles O25: the registers and the records are what `State.resetFor` writes, and slot `i` holds
the `resetSlot` of its own parameters. -/
theorem resetState : Obligations.ResetState := by
  intro cfg
  refine ⟨rfl, rfl, rfl, rfl, rfl, rfl, rfl, rfl, rfl, rfl, rfl, resetFor_slots_length cfg, ?slot⟩
  case slot =>
    intro i c r hc hr
    have hreset : resetSlot c = r := Option.some.inj ((resetFor_getElem? hc).symm.trans hr)
    rw [← hreset, resetSlot]

end Sys2Proof.Proofs
end
